-- ==== Sys2Proof/Word.lean ====
section
/-! DEFINITION. The word types of the two links (spec/09_cabin_link.md 9.7, spec/00_scope.md 4.2). -/

namespace Sys2Proof

/-- One character of either link: 8 data bits (00_scope.md section 3). -/
abbrev Byte := BitVec 8

/-- A time stamp: the device's millisecond count, 32 bits wide, wrapping (00_scope.md 4.2). -/
abbrev Stamp := BitVec 32

end Sys2Proof
end

