-- ==== Sys2Proof/Syntax.lean ====
section
/-! DEFINITION. The commands of the Ardolin 740: one constructor per row of spec/opcode_table.json, with the row's
operands. A command is a stimulus from outside the device: a request frame of the host, a frame of a node, the end of
a frame on a line, a gap, an expiry, a reset (log 1). -/

namespace Sys2Proof

/-- The twelve roles of field nodes (spec/08_machine_line.md, opening section). -/
inductive Role where
  | face | cutter | screw | thrust | erector | belt
  | grout (line : Fin 6)
  deriving DecidableEq, Repr

/-- The commands. A request carries the tag and the payload bytes of its frame (R144, R146); a node frame carries the
source address, the sequence number and the payload bytes of its frame (spec/09_cabin_link.md 9.7). -/
inductive Instr where
  /-- POWER_ON_RESET (R1). -/
  | powerOnReset
  /-- LINE_RESET (R1). -/
  | lineReset
  /-- CABIN_FRAME_RECEIVED (R143). -/
  | cabinFrameReceived (bytes : List Byte)
  /-- CABIN_RX_GAP (R142). -/
  | cabinRxGap (after : List Byte)
  /-- UNKNOWN_KIND (R144). -/
  | unknownKind (kind tag : Byte) (payload : List Byte)
  /-- STATUS (R147). -/
  | status (tag : Byte) (payload : List Byte)
  /-- PING (R147). -/
  | ping (tag : Byte) (payload : List Byte)
  /-- COMMISSION (R158). -/
  | commission (tag : Byte) (payload : List Byte)
  /-- RESTART (R22). -/
  | restart (tag : Byte) (payload : List Byte)
  /-- SET (R155). -/
  | set (tag : Byte) (payload : List Byte)
  /-- GET (R157). -/
  | get (tag : Byte) (payload : List Byte)
  /-- PLAN_PUSH (R121). -/
  | planPush (tag : Byte) (payload : List Byte)
  /-- PLAN_DROP (R125). -/
  | planDrop (tag : Byte) (payload : List Byte)
  /-- PLAN_LIST (R125). -/
  | planList (tag : Byte) (payload : List Byte)
  /-- START (R5). -/
  | start (tag : Byte) (payload : List Byte)
  /-- HOLD (R15). -/
  | hold (tag : Byte) (payload : List Byte)
  /-- RELEASE (R15). -/
  | release (tag : Byte) (payload : List Byte)
  /-- END_STROKE (R11). -/
  | endStroke (tag : Byte) (payload : List Byte)
  /-- ENTER_BUILD (R13). -/
  | enterBuild (tag : Byte) (payload : List Byte)
  /-- SAFE_STOP (R16). -/
  | safeStop (tag : Byte) (payload : List Byte)
  /-- RESUME (R20). -/
  | resume (tag : Byte) (payload : List Byte)
  /-- RETRACT (R66). -/
  | retract (tag : Byte) (payload : List Byte)
  /-- RESEAT (R67). -/
  | reseat (tag : Byte) (payload : List Byte)
  /-- ACCEPT (R68). -/
  | accept (tag : Byte) (payload : List Byte)
  /-- SCREW_MANUAL (R43). -/
  | screwManual (tag : Byte) (payload : List Byte)
  /-- SCREW_AUTO (R44). -/
  | screwAuto (tag : Byte) (payload : List Byte)
  /-- FACE_MODE (R37). -/
  | faceMode (tag : Byte) (payload : List Byte)
  /-- BIAS_CLEAR (R32). -/
  | biasClear (tag : Byte) (payload : List Byte)
  /-- CUTTER_MANUAL (R56). -/
  | cutterManual (tag : Byte) (payload : List Byte)
  /-- CUTTER_AUTO (R56). -/
  | cutterAuto (tag : Byte) (payload : List Byte)
  /-- LINE_PAUSE (R91). -/
  | linePause (tag : Byte) (payload : List Byte)
  /-- LINE_CONTINUE (R92). -/
  | lineContinue (tag : Byte) (payload : List Byte)
  /-- LINE_CLEAR (R93). -/
  | lineClear (tag : Byte) (payload : List Byte)
  /-- LINE_TOPUP (R94). -/
  | lineTopup (tag : Byte) (payload : List Byte)
  /-- LINE_MODE (R95). -/
  | lineMode (tag : Byte) (payload : List Byte)
  /-- FREEZE (R140). -/
  | freeze (tag : Byte) (payload : List Byte)
  /-- UNFREEZE (R140). -/
  | unfreeze (tag : Byte) (payload : List Byte)
  /-- RING_READ (R131). -/
  | ringRead (tag : Byte) (payload : List Byte)
  /-- SLICE_READ (R116). -/
  | sliceRead (tag : Byte) (payload : List Byte)
  /-- NODE_READ (R141). -/
  | nodeRead (tag : Byte) (payload : List Byte)
  /-- LINE_READ (R147). -/
  | lineRead (tag : Byte) (payload : List Byte)
  /-- CABIN_TX_DONE (R148). -/
  | cabinTxDone
  /-- CABIN_SILENCE_EXPIRY (R21). -/
  | cabinSilenceExpiry
  /-- STATUS_PACING_EXPIRY (R152). -/
  | statusPacingExpiry
  /-- FACE_SAMPLE (R25). -/
  | faceSample (address sequence : Byte) (payload : List Byte)
  /-- FACE_INVALID_EXPIRY (R29). -/
  | faceInvalidExpiry
  /-- CUTTER_SAMPLE (R47). -/
  | cutterSample (address sequence : Byte) (payload : List Byte)
  /-- START_TIMER_EXPIRY (R51). -/
  | startTimerExpiry
  /-- SCREW_SAMPLE (R42). -/
  | screwSample (address sequence : Byte) (payload : List Byte)
  /-- THRUST_SAMPLE (R9). -/
  | thrustSample (address sequence : Byte) (payload : List Byte)
  /-- MOVE_TIMER_EXPIRY (R61). -/
  | moveTimerExpiry (group : Fin 7)
  /-- ERECTOR_SAMPLE (R69). -/
  | erectorSample (address sequence : Byte) (payload : List Byte)
  /-- SEAT_REPORT (R71). -/
  | seatReport (address sequence : Byte) (payload : List Byte)
  /-- BELT_SAMPLE (R105). -/
  | beltSample (address sequence : Byte) (payload : List Byte)
  /-- GROUT_SAMPLE (R88). -/
  | groutSample (address sequence : Byte) (payload : List Byte)
  /-- DONE_REPORT (R86). -/
  | doneReport (address sequence : Byte) (payload : List Byte)
  /-- STROKE_TIMER_EXPIRY (R87). -/
  | strokeTimerExpiry (line : Fin 6)
  /-- PERIOD_TIMER_EXPIRY (R85). -/
  | periodTimerExpiry (line : Fin 6)
  /-- NODE_OTHER_FRAME (R133). -/
  | nodeOtherFrame (kind address sequence : Byte) (payload : List Byte)
  /-- MACHINE_RX_GAP (R133). -/
  | machineRxGap (after : List Byte)
  /-- SILENCE_TIMER_EXPIRY (R135). -/
  | silenceTimerExpiry (role : Role)
  /-- MACHINE_TX_DONE (R139). -/
  | machineTxDone
  /-- FREEZE_TIMER_EXPIRY (R140). -/
  | freezeTimerExpiry
  /-- UNKNOWN_ADDRESS_FRAME (R133). -/
  | unknownAddressFrame (kind address sequence : Byte) (payload : List Byte)
  /-- MACHINE_FRAME_DISCARDED (R133). -/
  | machineFrameDiscarded (bytes : List Byte)
  deriving DecidableEq, Repr

end Sys2Proof
end

