-- ==== Sys2Proof/Config.lean ====
section
/-! DEFINITION. The free values: what the manual leaves open after which the device goes on. Each is an opaque
constant without a body, applied to the operands it depends on, so that nothing can be proved of its value. -/

namespace Sys2Proof.Config

/-- Byte `i` of a Machine Line payload too short to carry it: the manual checks no payload length on that line and
states no value (log 9). -/
opaque missingByte : List Byte → Nat → Byte

/-- What a flag byte other than 0 and 1 reads as in a Machine Line frame; R145 names 0 and 1 only (log 10). -/
opaque flagValue : Byte → Bool

/-- The gate position that a SCREW sample's code outside the table of 9.7 reads as (log 11). -/
opaque gateCode : Byte → Fin 3

/-- The group position that a THRUST sample's code outside the table of 9.7 reads as (log 11). -/
opaque positionCode : Byte → Fin 3

/-- Byte `i` of a field of the given width for a value that does not fit the width R145 gives it (log 13). -/
opaque overwideByte : Nat → Int → Nat → Byte

/-- The measured mass of a slice after a credit whose sum lies above the stated range 0 to 2^32 − 1 (R104, log 14). -/
opaque massOverflow : Nat → Nat

/-- The next index after an opening that took the index 255, the top of its stated range (R103, log 14). -/
opaque indexOverflow : Nat → Nat

/-- The place of a timer among those that expire in one millisecond: the manual lets such expiries be taken in either
order (log 5). -/
opaque expiryRank : Stamp → Nat → Nat

end Sys2Proof.Config
end

