-- ==== Sys2Proof/Machine/Tables.lean ====
section
/-! DEFINITION. Fixed tables (five cells, six lines, seven groups and sectors, twelve nodes) and the arithmetic words of
spec/00_scope.md 4.4. -/

namespace Sys2Proof.Machine

/-- Change one entry of a fixed table. -/
def updateAt {α : Type} {n : Nat} (t : Vector α n) (i : Fin n) (f : α → α) : Vector α n :=
  t.set i (f t[i])

/-- Change every entry of a fixed table, each with its number. -/
def mapTable {α β : Type} {n : Nat} (f : Fin n → α → β) (t : Vector α n) : Vector β n :=
  Vector.ofFn fun i => f i t[i]

/-- The numbers 0 to 4 of the face cells, in order. -/
def allCells : List (Fin 5) := [0, 1, 2, 3, 4]

/-- The numbers 0 to 5 of the grout lines, in order. -/
def allLines : List (Fin 6) := [0, 1, 2, 3, 4, 5]

/-- The numbers 0 to 6 of the thrust groups and sectors, in order. -/
def allGroups : List (Fin 7) := [0, 1, 2, 3, 4, 5, 6]

/-- The roles in role order: FACE 0 to GROUT5 11 (spec/08_machine_line.md, opening section). -/
def allRoles : List Role :=
  [.face, .cutter, .screw, .thrust, .erector, .belt, .grout 0, .grout 1, .grout 2, .grout 3, .grout 4, .grout 5]

/-- The number of a role (spec/08_machine_line.md, opening section). -/
def roleIndex : Role → Fin 12
  | .face => 0
  | .cutter => 1
  | .screw => 2
  | .thrust => 3
  | .erector => 4
  | .belt => 5
  | .grout l => ⟨6 + l.val, by omega⟩

/-- "Clamped to a range" of 00_scope.md 4.4, on naturals. -/
def clampNat (lo hi x : Nat) : Nat := if x < lo then lo else if hi < x then hi else x

/-- "Clamped to a range" of 00_scope.md 4.4, on integers. -/
def clampInt (lo hi x : Int) : Int := if x < lo then lo else if hi < x then hi else x

/-- A count held at its greatest value. -/
def heldAdd (top x d : Nat) : Nat := min top (x + d)

/-- "Rounded" of 00_scope.md 4.4: the nearest integer to `n / d`, an exact half away from zero. -/
def roundDiv (n : Int) (d : Nat) : Int :=
  if 0 ≤ n then Int.ofNat ((2 * n.toNat + d) / (2 * d)) else - Int.ofNat ((2 * (-n).toNat + d) / (2 * d))

/-- "Rounded up" of 00_scope.md 4.4, on naturals. -/
def ceilDiv (n d : Nat) : Nat := (n + (d - 1)) / d

/-- Insertion into a list sorted ascending by a key; entries of one key keep their order of insertion. -/
def insertByKey {α : Type} (key : α → Nat) (x : α) : List α → List α
  | [] => [x]
  | y :: ys => if key x < key y then x :: y :: ys else y :: insertByKey key x ys

/-- A list sorted ascending by a key. -/
def sortByKey {α : Type} (key : α → Nat) : List α → List α
  | [] => []
  | x :: xs => insertByKey key x (sortByKey key xs)

end Sys2Proof.Machine
end

