-- ==== Sys2Proof/Machine/Types.lean ====
section
/-! DEFINITION. The named values and the state of each block of the Ardolin 740 (spec/00_scope.md 2.1), as plain data. Each structure's docstring names the rule that gives its items. -/

namespace Sys2Proof.Machine

/-! ## Named values (spec/09_cabin_link.md 9.7, enumerated codes) -/

/-- The eight cycle phases (spec/01_bore_cycle.md 1.1). -/
inductive Phase where
  | unconfigured | idle | ready | boring | strokeEnd | building | buildSuspended | halted
  deriving DecidableEq, Repr

/-- The halt cause with its subject (R1, R16). -/
inductive HaltCause where
  | request | cutterTrip | node (role : Role) | faceInvalid
  deriving DecidableEq, Repr

/-- One entry of the rate cap table: "no limit" or a rate in mm/min (R6). -/
inductive Cap where
  | noLimit
  | rate (mmPerMin : Nat)
  deriving DecidableEq, Repr

/-- The names of the rate cap entries, in the order of R8. -/
inductive CapEntry where
  | plan | cabin | face | cutter | grout | muck
  deriving DecidableEq, Repr

/-- The six states of a thrust group (spec/04_thrust_groups_and_ring_building.md 4.1). -/
inductive GroupState where
  | pushing | holding | retracting | retracted | shoving | recovering
  deriving DecidableEq, Repr

/-- The position that a THRUST sample reports for a group (R59). -/
inductive GroupPosition where
  | extended | retracted | moving
  deriving DecidableEq, Repr

/-- The five group orders (R60). -/
inductive GroupOrder where
  | push | hold | retract | shove | recover
  deriving DecidableEq, Repr

/-- The states of a sector (R64). -/
inductive SectorState where
  | empty | placed | offset | accepted
  deriving DecidableEq, Repr

/-- The face classes (R23, R33). -/
inductive FaceClass where
  | high | low | leap | under | over | inBand | invalid
  deriving DecidableEq, Repr

/-- The convergence modes (R37). -/
inductive Convergence where
  | slow | fast
  deriving DecidableEq, Repr

/-- AUTO or MANUAL: the screw mode (R23) and the speed mode (R46). -/
inductive DriveMode where
  | auto | manual
  deriving DecidableEq, Repr

/-- The screw gate: orders OPEN and CLOSED, positions OPEN, CLOSED and TRAVELLING (R41, R42). -/
inductive Gate where
  | open | closed | travelling
  deriving DecidableEq, Repr

/-- The cutter states (spec/03_cutterhead_monitor.md 3.1). -/
inductive CutterState where
  | stopped | starting | running | stopping | tripped
  deriving DecidableEq, Repr

/-- The directions of rotation (R46). -/
inductive Direction where
  | cw | ccw
  deriving DecidableEq, Repr

/-- The plan's direction field (R118). -/
inductive PlanDirection where
  | cw | ccw | auto
  deriving DecidableEq, Repr

/-- The drive orders (R49, R54). -/
inductive DriveOrder where
  | run | stop
  deriving DecidableEq, Repr

/-- The roll alarm (R48). -/
inductive RollAlarm where
  | armed | raised
  deriving DecidableEq, Repr

/-- The torque bands (R52). -/
inductive TorqueBand where
  | normal | derate
  deriving DecidableEq, Repr

/-- The states of a grout line (R81). -/
inductive LineState where
  | idle | running | held | paused | blocked | flushing
  deriving DecidableEq, Repr

/-- The modes of a grout line (R81). -/
inductive LineMode where
  | locked | free
  deriving DecidableEq, Repr

/-- The kinds of grout stroke (R83). -/
inductive StrokeKind where
  | grout | water
  deriving DecidableEq, Repr

/-- The causes of a blockage (R90). -/
inductive BlockCause where
  | stall | pressure | node
  deriving DecidableEq, Repr

/-- The lag bands (R99). -/
inductive LagBand where
  | none | lag | stop
  deriving DecidableEq, Repr

/-- The states of a slice (R104). -/
inductive SliceState where
  | opened | travelling | arriving | final
  deriving DecidableEq, Repr

/-- The verdicts on a slice (R111). -/
inductive Verdict where
  | ok | over | under | notJudged
  deriving DecidableEq, Repr

/-- The overdig state (R103). -/
inductive Overdig where
  | inactive | active
  deriving DecidableEq, Repr

/-- The states of a node (R132). -/
inductive NodeState where
  | unseen | live | silent | fault
  deriving DecidableEq, Repr

/-- The status of a ring record (R126). -/
inductive RecordStatus where
  | opened | closed | complete
  deriving DecidableEq, Repr

/-- The reasons for rejecting a seat (R71). -/
inductive SeatReason where
  | phase | suspended | occupied | order | notRetracted
  deriving DecidableEq, Repr

/-- A timer: stopped, running since a time stamp for a duration in ms, or expired (spec/00_scope.md 4.2). -/
inductive Timer where
  | stopped
  | running (start : Stamp) (duration : Nat)
  | expired
  deriving DecidableEq, Repr

/-! ## Settings (spec/10_settings_and_commissioning.md) -/

/-- The GEOMETRY group (10.2). -/
structure GeometrySettings where
  dc : Nat
  ds : Nat
  ringWidth : Nat
  clearance : Nat
  cellHeight : Vector Int 5
  cellMask : Nat
  deriving DecidableEq, Repr

/-- The NODE group: one address and one silence timeout for each role (10.2). -/
structure NodeSettings where
  address : Vector Nat 12
  timeout : Vector Nat 12
  deriving DecidableEq, Repr

/-- The THRUST group (4.8). -/
structure ThrustSettings where
  holdMargin : Nat
  groupForce : Nat
  maxRetracted : Nat
  seatTol : Nat
  deriving DecidableEq, Repr

/-- The FACE group (2.7). -/
structure FaceSettings where
  gamma : Nat
  faceInvalidMs : Nat
  biasMax : Nat
  highLimit : Nat
  lowLimit : Nat
  leapThreshold : Nat
  bandHalf : Nat
  stepUp : Nat
  stepDown : Nat
  leapDown : Nat
  kFf : Nat
  screwMin : Nat
  screwMax : Nat
  deriving DecidableEq, Repr

/-- The CUTTER group (3.7). -/
structure CutterSettings where
  rollMin : Nat
  rollAlarm : Nat
  torqueDerate : Nat
  torqueTrip : Nat
  startMs : Nat
  deriving DecidableEq, Repr

/-- The GROUT group (5.11). -/
structure GroutSettings where
  strokeMl : Nat
  strokeMaxMs : Nat
  pMax : Nat
  pResume : Nat
  pBurst : Nat
  flushStrokes : Nat
  freePeriod : Nat
  lagWarn : Nat
  lagStop : Nat
  baseShares : Vector Nat 6
  deriving DecidableEq, Repr

/-- The MUCK group (6.11). -/
structure MuckSettings where
  sliceLen : Nat
  beltLag : Nat
  cropHead : Nat
  overTol : Nat
  underTol : Nat
  kOver : Nat
  kOk : Nat
  biasStep : Nat
  deriving DecidableEq, Repr

/-- The LINK group (10.2); a status period of 0 is OFF. -/
structure LinkSettings where
  cabinSilence : Nat
  statusPeriod : Nat
  deriving DecidableEq, Repr

/-- The Configuration Block: the setting table and the derived values (R154). -/
structure Cfb where
  geometry : GeometrySettings
  node : NodeSettings
  thrust : ThrustSettings
  face : FaceSettings
  cutter : CutterSettings
  grout : GroutSettings
  muck : MuckSettings
  link : LinkSettings
  aFace : Option Nat
  vVoid : Option Nat
  deriving DecidableEq, Repr

/-! ## Advance and Build Unit -/

/-- The rate cap table (R6). The PLAN entry never holds "no limit". -/
structure Caps where
  plan : Nat
  cabin : Cap
  face : Cap
  cutter : Cap
  grout : Cap
  muck : Cap
  deriving DecidableEq, Repr

/-- The record of one thrust group (R58). -/
structure Group where
  state : GroupState
  lock : Bool
  position : Option GroupPosition
  orderQueued : Bool
  recoverPending : Bool
  moveTimer : Timer
  deriving DecidableEq, Repr

/-- The record of one sector (R64). -/
structure Sector where
  state : SectorState
  gap : Option Nat
  reseats : Nat
  deriving DecidableEq, Repr

/-- The Advance and Build Unit (R1, R58, R63, R64). An advance reference of `none` is unknown. -/
structure Abu where
  phase : Phase
  resumePhase : Option Phase
  haltCause : Option HaltCause
  furtherCauses : Nat
  advanceRef : Option Int
  strokeStart : Int
  strokeTarget : Int
  caps : Caps
  effective : Nat
  rateSent : Nat
  held : Option CapEntry
  groups : Vector Group 7
  buildOrder : Option (Vector (Fin 7) 7)
  expected : Option (Fin 7)
  sectors : Vector Sector 7
  suspensions : Nat
  deriving DecidableEq, Repr

/-! ## Face Balance Unit -/

/-- One cell record (R23). -/
structure Cell where
  raw : Option Nat
  fault : Bool
  valid : Bool
  corrected : Option Nat
  deriving DecidableEq, Repr

/-- The Face Balance Unit (R23). `valid` is the face validity, `count` the valid cell count n. -/
structure Fbu where
  cells : Vector Cell 5
  pw : Option Nat
  valid : Bool
  count : Nat
  faceClass : Option FaceClass
  tEff : Option Nat
  bias : Nat
  trim : Int
  convergence : Convergence
  screwMode : DriveMode
  manual : Nat
  v : Nat
  screwSent : Nat
  gateSent : Gate
  echo : Option (Nat × Gate)
  invalidTimer : Timer
  deriving DecidableEq, Repr

/-! ## Cutterhead Monitor -/

/-- The Cutterhead Monitor (R46). -/
structure Chm where
  state : CutterState
  direction : Direction
  mode : DriveMode
  manualSpeed : Nat
  speedSent : Nat
  speed : Option Nat
  torque : Option Nat
  roll : Option Int
  alarm : RollAlarm
  band : Option TorqueBand
  startTimer : Timer
  deriving DecidableEq, Repr

/-! ## Grout Unit -/

/-- A stroke in flight (R81): its ring number is `none` when there was no grout ring at issue. -/
structure Stroke where
  kind : StrokeKind
  volume : Nat
  ring : Option Nat
  issued : Stamp
  sent : Bool
  deriving DecidableEq, Repr

/-- The record of one grout line (R81). The base share is the setting base_shares. `pMaxInForce` and `pResumeInForce` are
the p_max and p_resume that a write leaves in force until the line's next GROUT sample (R102; log 48). -/
structure Line where
  state : LineState
  mode : LineMode
  pendingMode : LineMode
  share : Nat
  acc : Nat
  stroke : Option Stroke
  strokeTimer : Timer
  period : Nat
  pendingPeriod : Nat
  periodTimer : Timer
  topUp : Nat
  flush : Nat
  pressure : Option Nat
  pMaxInForce : Nat
  pResumeInForce : Nat
  ringStrokes : Nat
  ringVolume : Nat
  cause : Option BlockCause
  deriving DecidableEq, Repr

/-- An entry of the finishing list (R80). -/
structure Finishing where
  ring : Nat
  demand : Nat
  delivered : Nat
  inFlight : Nat
  deriving DecidableEq, Repr

/-- The Grout Unit (R80). `demand` is in nl. `haltPosted` says that all six lines were BLOCKED at the last posting of
the GROUT entry (R99 row 1; log 22). -/
structure Gru where
  lines : Vector Line 6
  groutRing : Option Nat
  demand : Nat
  delivered : Nat
  band : LagBand
  finishing : List Finishing
  unattributed : Nat
  haltPosted : Bool
  deriving DecidableEq, Repr

/-! ## Muck Balance Unit -/

/-- A slice record (R104). -/
structure Slice where
  ring : Nat
  index : Nat
  advanceStart : Nat
  length : Nat
  closePoint : Option Nat
  bStart : Nat
  theoretical : Option Nat
  measured : Nat
  state : SliceState
  verdict : Option Verdict
  deriving DecidableEq, Repr

/-- The tail marker with the ring of the stroke that set it (R103, R106; log 23). -/
structure TailMarker where
  position : Nat
  ring : Option Nat
  deriving DecidableEq, Repr

/-- The Muck Balance Unit (R103). The slice queue holds the oldest slice first. -/
structure Mbu where
  belt : Nat
  slices : List Slice
  strokeRing : Option Nat
  inProgress : Bool
  strokeAdvance : Nat
  nextIndex : Nat
  tail : Option TailMarker
  overRun : Nat
  okRun : Nat
  overdig : Overdig
  openingPending : Bool
  unattributed : Nat
  negativeTravel : Nat
  negativeMass : Nat
  deriving DecidableEq, Repr

/-! ## Ring Record Unit -/

/-- A ring plan (R118). An empty trim list is an absent one. -/
structure Plan where
  ring : Nat
  keySector : Fin 7
  rate : Nat
  target : Nat
  cutterSpeed : Nat
  direction : PlanDirection
  fill : Nat
  density : Nat
  additive : Nat
  lineModes : Option (Vector LineMode 6)
  trims : List Int
  deriving DecidableEq, Repr

/-- The active plan with its REPEATED flag (R119). -/
structure ActivePlan where
  plan : Plan
  repeated : Bool
  deriving DecidableEq, Repr

/-- The advance part of a record (R128). -/
structure AdvancePart where
  strokeStart : Int
  length : Int
  holds : Nat
  safeStops : Nat
  deriving DecidableEq, Repr

/-- The face part of a record (R128). -/
structure FacePart where
  pwMin : Option Nat
  pwMax : Option Nat
  pwSum : Nat
  pwCount : Nat
  highCount : Nat
  lowCount : Nat
  bias : Option Nat
  deriving DecidableEq, Repr

/-- The cutter part of a record (R128). -/
structure CutterPart where
  maxTorque : Option Nat
  direction : Direction
  deriving DecidableEq, Repr

/-- The build part of a record (R77, R128). -/
structure BuildPart where
  sectors : Vector Sector 7
  suspensions : Nat
  deriving DecidableEq, Repr

/-- One line's figures in a grout part (R128). -/
structure GroutLineFigures where
  ml : Nat
  strokes : Nat
  deriving DecidableEq, Repr

/-- The grout part of a record (R128). -/
structure GroutPart where
  lines : Vector GroutLineFigures 6
  demandMl : Nat
  deficit : Int
  deriving DecidableEq, Repr

/-- The muck part of a record (R128). -/
structure MuckPart where
  slices : Nat
  measured : Nat
  theoretical : Nat
  overs : Nat
  unders : Nat
  deriving DecidableEq, Repr

/-- A ring record (R126): status, final flags with CUT marks, and the parts of R128. Its ring number is that of the
plan summary. -/
structure RingRecord where
  plan : Plan
  repeated : Bool
  status : RecordStatus
  buildFinal : Bool
  groutFinal : Bool
  groutCut : Bool
  muckFinal : Bool
  muckCut : Bool
  advance : AdvancePart
  face : FacePart
  cutter : CutterPart
  build : BuildPart
  grout : GroutPart
  muck : MuckPart
  deriving DecidableEq, Repr

/-- The Ring Record Unit (R119, R126). Both lists hold the oldest entry first. -/
structure Rru where
  queue : List Plan
  active : Option ActivePlan
  exhausted : Bool
  records : List RingRecord
  deriving DecidableEq, Repr

/-! ## Machine Line Port -/

/-- The eighteen item keys (spec/09_cabin_link.md 9.7). A key fixes the role of its node. -/
inductive ItemKey where
  | advanceRate
  | groupOrder (group : Fin 7)
  | driveOrder
  | screwSpeed
  | screwGate
  | nextSector
  | pumpOrder (line : Fin 6)
  deriving DecidableEq, Repr

/-- A command: an item key with its value (spec/08_machine_line.md 8.1, 8.4). A pump order of `none` is STOP. -/
inductive Command where
  | advanceRate (rate : Nat)
  | groupOrder (group : Fin 7) (order : GroupOrder) (trim : Int)
  | driveOrder (order : DriveOrder) (speed : Nat) (direction : Direction)
  | screwSpeed (speed : Nat)
  | screwGate (gate : Gate)
  | nextSector (sector : Option (Fin 7))
  | pumpOrder (line : Fin 6) (stroke : Option (StrokeKind × Nat))
  deriving DecidableEq, Repr

/-- A command item with its safety mark (R137). -/
structure Item where
  command : Command
  safety : Bool
  deriving DecidableEq, Repr

/-- A Machine Line frame (spec/09_cabin_link.md 9.7). -/
structure MachineFrame where
  kind : Byte
  address : Byte
  sequence : Byte
  payload : List Byte
  deriving DecidableEq, Repr

/-- A Cabin Link frame (spec/09_cabin_link.md 9.7). -/
structure CabinFrame where
  kind : Byte
  tag : Byte
  payload : List Byte
  deriving DecidableEq, Repr

/-- A line receiver (R142, R133): hunting for the start marker, or gathering the bytes that follow one. -/
inductive Receiver where
  | hunting
  | gathering (bytes : List Byte)
  deriving DecidableEq, Repr

/-- The entry of one node (R132). The address and the silence timeout are NODE settings. -/
structure Node where
  state : NodeState
  lastSequence : Option Byte
  received : Nat
  missed : Nat
  mismatchRun : Nat
  silenceTimer : Timer
  lastArrival : Option Stamp
  lastTransmitted : Option Command
  deriving DecidableEq, Repr

/-- The Machine Line Port (R132, R137, R139, R140). The command queue holds the head item first. -/
structure Mlp where
  nodes : Vector Node 12
  gapCount : Nat
  crcCount : Nat
  lenCount : Nat
  unknownCount : Nat
  repeatedCount : Nat
  queue : List Item
  frozen : Bool
  freezeTimer : Timer
  receiver : Receiver
  tx : Option MachineFrame
  sequences : Vector Byte 12
  deriving DecidableEq, Repr

/-! ## Cabin Link Port -/

/-- The contents of an event: its kind with the subject and the value of the table of event kinds (9.7). -/
inductive EventBody where
  | strokeEnded (length : Int)
  | safeStop (cause : HaltCause) (left : Phase)
  | resumed (phase : Phase)
  | hostSilent
  | faceHigh (pw : Nat)
  | faceLow (pw : Nat)
  | faceInvalid (n : Nat)
  | rollAlarm (roll : Int)
  | cutterStartSlow (speed : Option Nat)
  | cutterDerate (rate : Nat)
  | cutterStopped (speed : Nat)
  | groupStall (group : Fin 7) (state : GroupState)
  | seatOffset (sector : Fin 7) (gap : Nat)
  | seatRejected (sector : Nat) (reason : SeatReason)
  | buildSuspended (faceLost : Bool)
  | buildResumed (pw : Nat)
  | ringClosed (ring : Nat)
  | lineHeld (line : Fin 6) (pressure : Nat)
  | lineResumed (line : Fin 6) (pressure : Nat)
  | lineBlocked (line : Fin 6) (cause : BlockCause)
  | lineFlushed (line : Fin 6) (pressure : Nat)
  | groutHalt
  | groutLag (entry : Nat)
  | muckQueueFull
  | overdig (index : Nat) (ratio : Nat)
  | underdig (index : Nat) (ratio : Nat)
  | muckCleared (okRun : Nat)
  | planRepeated (ring : Nat)
  | planExhausted
  | ringComplete (ring : Nat)
  | nodeSilent (role : Role)
  | nodeBack (role : Role) (before : NodeState)
  | nodeFault (role : Role) (echo : Bool)
  | freezeEnded (safeStop : Bool)
  deriving DecidableEq, Repr

/-- An event record (R149). -/
structure Event where
  body : EventBody
  ring : Nat
  stamp : Stamp
  deriving DecidableEq, Repr

/-- What the Cabin Link transmitter is sending: a frame, and whether it is a reply (R143, R148). -/
structure CabinTx where
  frame : CabinFrame
  isReply : Bool
  deriving DecidableEq, Repr

/-- A section as last sent in a status report: its bytes, and the values of the items that set its flag (R151). -/
structure SectionCopy where
  sent : List Byte
  key : List Byte
  deriving DecidableEq, Repr

/-- The Cabin Link Port (R142 to R153). -/
structure Clp where
  receiver : Receiver
  rxQueue : List CabinFrame
  gapCount : Nat
  crcCount : Nat
  lenCount : Nat
  overrunCount : Nat
  reply : Option CabinFrame
  tx : Option CabinTx
  events : List Event
  lost : Nat
  reportCount : Byte
  silenceTimer : Timer
  pacingTimer : Timer
  due : Bool
  copies : Vector (Option SectionCopy) 7
  deriving DecidableEq, Repr

end Sys2Proof.Machine
end

