-- ==== Sys2Proof/Machine/Reset.lean ====
section
/-! DEFINITION. The value of each block's state after power-on reset and line reset. -/

namespace Sys2Proof.Machine

/-- The default setting table with both derived values absent (R154; tables 10.2, 4.8, 2.7, 3.7, 5.11, 6.11). -/
def Cfb.reset : Cfb where
  geometry :=
    { dc := 0, ds := 0, ringWidth := 1500, clearance := 100, cellHeight := #v[0, 0, 0, 0, 0], cellMask := 0 }
  node :=
    { address := #v[0, 0, 0, 0, 0, 0, 0, 0, 0, 0, 0, 0]
      timeout := #v[300, 300, 300, 300, 2000, 1000, 1000, 1000, 1000, 1000, 1000, 1000] }
  thrust := { holdMargin := 1300, groupForce := 3000, maxRetracted := 2, seatTol := 30 }
  face :=
    { gamma := 12, faceInvalidMs := 5000, biasMax := 40, highLimit := 60, lowLimit := 50, leapThreshold := 35
      bandHalf := 15, stepUp := 5, stepDown := 6, leapDown := 60, kFf := 9500, screwMin := 100, screwMax := 900 }
  cutter := { rollMin := 30, rollAlarm := 150, torqueDerate := 850, torqueTrip := 1100, startMs := 20000 }
  grout :=
    { strokeMl := 6000, strokeMaxMs := 20000, pMax := 450, pResume := 380, pBurst := 600, flushStrokes := 5
      freePeriod := 30000, lagWarn := 150000, lagStop := 400000, baseShares := #v[220, 180, 100, 100, 180, 220] }
  muck :=
    { sliceLen := 100, beltLag := 60000, cropHead := 2, overTol := 80, underTol := 120, kOver := 3, kOk := 5
      biasStep := 10 }
  link := { cabinSilence := 2000, statusPeriod := 200 }
  aFace := none
  vVoid := none

/-- A thrust group after a reset (R58). -/
def Group.reset : Group :=
  { state := .holding, lock := false, position := none, orderQueued := false, recoverPending := false
    moveTimer := .stopped }

/-- A sector after a reset and at ENTER BUILD (R64). -/
def Sector.reset : Sector := { state := .empty, gap := none, reseats := 0 }

/-- The ABU after power-on reset and line reset (R1, R58, R63, R64). -/
def Abu.reset : Abu where
  phase := .unconfigured
  resumePhase := none
  haltCause := none
  furtherCauses := 0
  advanceRef := none
  strokeStart := 0
  strokeTarget := 0
  caps := { plan := 0, cabin := .noLimit, face := .noLimit, cutter := .noLimit, grout := .noLimit, muck := .noLimit }
  effective := 0
  rateSent := 0
  held := none
  groups := Vector.replicate 7 Group.reset
  buildOrder := none
  expected := none
  sectors := Vector.replicate 7 Sector.reset
  suspensions := 0

/-- A cell record after a reset (R23). -/
def Cell.reset : Cell := { raw := none, fault := false, valid := false, corrected := none }

/-- The FBU after power-on reset and line reset (R23). -/
def Fbu.reset : Fbu where
  cells := Vector.replicate 5 Cell.reset
  pw := none
  valid := false
  count := 0
  faceClass := none
  tEff := none
  bias := 0
  trim := 0
  convergence := .slow
  screwMode := .auto
  manual := 0
  v := 0
  screwSent := 0
  gateSent := .closed
  echo := none
  invalidTimer := .stopped

/-- The CHM after power-on reset, line reset and RESTART (R46). -/
def Chm.reset : Chm where
  state := .stopped
  direction := .cw
  mode := .auto
  manualSpeed := 0
  speedSent := 0
  speed := none
  torque := none
  roll := none
  alarm := .armed
  band := none
  startTimer := .stopped

/-- A grout line after power-on reset, line reset and RESTART, under the settings in force (R81). -/
def Line.reset (g : GroutSettings) (i : Fin 6) : Line where
  state := .idle
  mode := .locked
  pendingMode := .locked
  share := g.baseShares[i]
  acc := 0
  stroke := none
  strokeTimer := .stopped
  period := g.freePeriod
  pendingPeriod := g.freePeriod
  periodTimer := .stopped
  topUp := 0
  flush := 0
  pressure := none
  pMaxInForce := g.pMax
  pResumeInForce := g.pResume
  ringStrokes := 0
  ringVolume := 0
  cause := none

/-- The GRU after power-on reset, line reset and RESTART, under the settings in force (R80, R81). -/
def Gru.reset (g : GroutSettings) : Gru where
  lines := Vector.ofFn fun i => Line.reset g i
  groutRing := none
  demand := 0
  delivered := 0
  band := .none
  finishing := []
  unattributed := 0
  haltPosted := false

/-- The MBU after power-on reset and line reset (R103). -/
def Mbu.reset : Mbu where
  belt := 0
  slices := []
  strokeRing := none
  inProgress := false
  strokeAdvance := 0
  nextIndex := 0
  tail := none
  overRun := 0
  okRun := 0
  overdig := .inactive
  openingPending := false
  unattributed := 0
  negativeTravel := 0
  negativeMass := 0

/-- The RRU after power-on reset and line reset (R119, R126). -/
def Rru.reset : Rru := { queue := [], active := none, exhausted := false, records := [] }

/-- A node entry after a reset and RESTART (R132). -/
def Node.reset : Node where
  state := .unseen
  lastSequence := none
  received := 0
  missed := 0
  mismatchRun := 0
  silenceTimer := .stopped
  lastArrival := none
  lastTransmitted := none

/-- The MLP after power-on reset and line reset (R132, R140; the receiver and the transmitter by log 31). -/
def Mlp.reset : Mlp where
  nodes := Vector.replicate 12 Node.reset
  gapCount := 0
  crcCount := 0
  lenCount := 0
  unknownCount := 0
  repeatedCount := 0
  queue := []
  frozen := false
  freezeTimer := .stopped
  receiver := .hunting
  tx := none
  sequences := Vector.replicate 12 0

/-- The CLP after power-on reset and line reset: the pacing timer starts with the default period, and every section
copy is empty (R21, R153; the receiver and the waiting reply by log 31). -/
def Clp.reset : Clp where
  receiver := .hunting
  rxQueue := []
  gapCount := 0
  crcCount := 0
  lenCount := 0
  overrunCount := 0
  reply := none
  tx := none
  events := []
  lost := 0
  reportCount := 0
  silenceTimer := .stopped
  pacingTimer := .running 0 200
  due := false
  copies := Vector.replicate 7 none

end Sys2Proof.Machine
end

