-- ==== Sys2Proof/Machine/State.lean ====
section
/-! DEFINITION. The state of the whole machine, the reasons to stop, and the state after power-on reset. -/

namespace Sys2Proof.Machine

/-- The state of the device: its nine blocks, the millisecond count, and the queue of commands that wait, first in,
first out (the model's own). -/
structure State where
  abu : Abu
  fbu : Fbu
  chm : Chm
  gru : Gru
  mbu : Mbu
  rru : Rru
  mlp : Mlp
  clp : Clp
  cfb : Cfb
  ms : Stamp
  pending : List Instr
  deriving DecidableEq, Repr

/-- Reasons to stop with a fault. There is none: the manual names no event that stops the device. -/
inductive Fault where
  deriving DecidableEq, Repr

/-- Reasons to refuse a command. -/
inductive Refusal where
  /-- Raised only by an arm of `exec` for a command without a meaning; safe, and raised by none now. -/
  | notModelled (mnemonic : String)
  deriving DecidableEq, Repr

/-- The machine right after power-on reset (spec/00_scope.md 4.6; R1, R23, R46, R80, R103, R119, R132, R153, R154). -/
def State.reset : State where
  abu := Abu.reset
  fbu := Fbu.reset
  chm := Chm.reset
  gru := Gru.reset Cfb.reset.grout
  mbu := Mbu.reset
  rru := Rru.reset
  mlp := Mlp.reset
  clp := Clp.reset
  cfb := Cfb.reset
  ms := 0
  pending := []

end Sys2Proof.Machine
end

