-- ==== Sys2Proof/Machine/Wire.lean ====
section
/-! DEFINITION. Field encodings of both links (R145) and the codes of spec/09_cabin_link.md 9.7. -/

namespace Sys2Proof.Machine

/-! ## Numbers (R145: high byte first; signed fields in two's complement; absent is all ones, or the most negative
value of a signed field) -/

/-- The low `w` bytes of `v`, high byte first. -/
def bigEndian : Nat → Nat → List Byte
  | 0, _ => []
  | w + 1, v => BitVec.ofNat 8 (v / 256 ^ w) :: bigEndian w v

/-- The number that bytes spell, high byte first. -/
def fromBigEndian (bytes : List Byte) : Nat := bytes.foldl (fun n b => 256 * n + b.toNat) 0

/-- An unsigned number in `w` bytes; a value that does not fit is free (log 13). -/
def encNat (w v : Nat) : List Byte :=
  if v < 256 ^ w then bigEndian w v else (List.range w).map (Config.overwideByte w v)

/-- A signed number in `w` bytes; a value that does not fit is free (log 13). -/
def encInt (w : Nat) (v : Int) : List Byte :=
  if -(256 ^ w / 2 : Int) ≤ v ∧ v < (256 ^ w / 2 : Int) then bigEndian w (v % (256 ^ w : Int)).toNat
  else (List.range w).map (Config.overwideByte w v)

/-- All ones in `w` bytes: an absent unsigned field. -/
def allOnes (w : Nat) : List Byte := List.replicate w 0xFF

/-- An unsigned field that may be absent. -/
def encOpt (w : Nat) : Option Nat → List Byte
  | none => allOnes w
  | some v => encNat w v

/-- A signed field that may be absent. -/
def encOptInt (w : Nat) : Option Int → List Byte
  | none => bigEndian w (256 ^ w / 2)
  | some v => encInt w v

/-- A flag: one byte, 0 or 1. -/
def encFlag (b : Bool) : List Byte := [if b then 1 else 0]

/-- A time stamp: four bytes. -/
def encStamp (t : Stamp) : List Byte := bigEndian 4 t.toNat

/-- A time stamp that may be absent. -/
def encOptStamp : Option Stamp → List Byte
  | none => allOnes 4
  | some t => encStamp t

/-- Two's complement of a `w`-byte number. -/
def signedOf (w n : Nat) : Int := if n < 256 ^ w / 2 then (n : Int) else (n : Int) - (256 ^ w : Int)

/-- Byte `i` of a payload; a byte a Machine Line payload does not carry is free (log 9). -/
def byteAt (p : List Byte) (i : Nat) : Byte :=
  match p[i]? with
  | some b => b
  | none => Config.missingByte p i

/-- The `w`-byte unsigned field at an offset of a payload. -/
def natAt (p : List Byte) (offset w : Nat) : Nat :=
  fromBigEndian ((List.range w).map fun k => byteAt p (offset + k))

/-- The `w`-byte signed field at an offset of a payload. -/
def intAt (p : List Byte) (offset w : Nat) : Int := signedOf w (natAt p offset w)

/-- The flag at an offset of a payload: 0 clear, 1 set; any other byte is free (log 10). -/
def flagAt (p : List Byte) (offset : Nat) : Bool :=
  if byteAt p offset = 0 then false else if byteAt p offset = 1 then true else Config.flagValue (byteAt p offset)

/-! ## Codes (9.7: counting from 0 in the order given) -/

/-- The code of a phase. -/
def phaseCode : Phase → Nat
  | .unconfigured => 0
  | .idle => 1
  | .ready => 2
  | .boring => 3
  | .strokeEnd => 4
  | .building => 5
  | .buildSuspended => 6
  | .halted => 7

/-- The code of a halt cause, without its subject. -/
def causeCode : HaltCause → Nat
  | .request => 0
  | .cutterTrip => 1
  | .node _ => 2
  | .faceInvalid => 3

/-- The subject of a halt cause: the node role, for NODE (R1). -/
def causeSubject : HaltCause → Option Nat
  | .node r => some (roleIndex r).val
  | _ => none

/-- The code of a rate cap entry's name. -/
def entryCode : CapEntry → Nat
  | .plan => 0
  | .cabin => 1
  | .face => 2
  | .cutter => 3
  | .grout => 4
  | .muck => 5

/-- A rate that may be "no limit": 255 for "no limit" (R145). -/
def encCap : Cap → List Byte
  | .noLimit => [255]
  | .rate r => encNat 1 r

/-- The code of a group state. -/
def groupStateCode : GroupState → Nat
  | .pushing => 0
  | .holding => 1
  | .retracting => 2
  | .retracted => 3
  | .shoving => 4
  | .recovering => 5

/-- The code of a reported group position. -/
def groupPositionCode : GroupPosition → Nat
  | .extended => 0
  | .retracted => 1
  | .moving => 2

/-- The group position of a code; a code outside the table is free (log 11). -/
def groupPositionOf (b : Byte) : GroupPosition :=
  match (if b = 0 then 0 else if b = 1 then 1 else if b = 2 then 2 else Config.positionCode b : Fin 3) with
  | 0 => .extended
  | 1 => .retracted
  | 2 => .moving

/-- The code of a group order. -/
def groupOrderCode : GroupOrder → Nat
  | .push => 0
  | .hold => 1
  | .retract => 2
  | .shove => 3
  | .recover => 4

/-- The code of a sector state. -/
def sectorStateCode : SectorState → Nat
  | .empty => 0
  | .placed => 1
  | .offset => 2
  | .accepted => 3

/-- The code of a face class. -/
def faceClassCode : FaceClass → Nat
  | .high => 0
  | .low => 1
  | .leap => 2
  | .under => 3
  | .over => 4
  | .inBand => 5
  | .invalid => 6

/-- The code of a convergence mode. -/
def convergenceCode : Convergence → Nat
  | .slow => 0
  | .fast => 1

/-- The code of a screw or speed mode. -/
def driveModeCode : DriveMode → Nat
  | .auto => 0
  | .manual => 1

/-- The code of a gate order or position. -/
def gateCode : Gate → Nat
  | .open => 0
  | .closed => 1
  | .travelling => 2

/-- The gate position of a code; a code outside the table is free (log 11). -/
def gateOf (b : Byte) : Gate :=
  match (if b = 0 then 0 else if b = 1 then 1 else if b = 2 then 2 else Config.gateCode b : Fin 3) with
  | 0 => .open
  | 1 => .closed
  | 2 => .travelling

/-- The code of a cutter state. -/
def cutterStateCode : CutterState → Nat
  | .stopped => 0
  | .starting => 1
  | .running => 2
  | .stopping => 3
  | .tripped => 4

/-- The code of a direction. -/
def directionCode : Direction → Nat
  | .cw => 0
  | .ccw => 1

/-- The code of a plan direction. -/
def planDirectionCode : PlanDirection → Nat
  | .cw => 0
  | .ccw => 1
  | .auto => 2

/-- The code of a drive order. -/
def driveOrderCode : DriveOrder → Nat
  | .run => 0
  | .stop => 1

/-- The code of a line state. -/
def lineStateCode : LineState → Nat
  | .idle => 0
  | .running => 1
  | .held => 2
  | .paused => 3
  | .blocked => 4
  | .flushing => 5

/-- The code of a line mode. -/
def lineModeCode : LineMode → Nat
  | .locked => 0
  | .free => 1

/-- The code of a stroke kind. -/
def strokeKindCode : StrokeKind → Nat
  | .grout => 0
  | .water => 1

/-- The stroke kind of a code; a code outside the table names no kind (log 11). -/
def strokeKindOf (b : Byte) : Option StrokeKind :=
  if b = 0 then some .grout else if b = 1 then some .water else none

/-- The code of a blocked cause. -/
def blockCauseCode : BlockCause → Nat
  | .stall => 0
  | .pressure => 1
  | .node => 2

/-- The code of a lag band. -/
def lagBandCode : LagBand → Nat
  | .none => 0
  | .lag => 1
  | .stop => 2

/-- The code of a slice state. -/
def sliceStateCode : SliceState → Nat
  | .opened => 0
  | .travelling => 1
  | .arriving => 2
  | .final => 3

/-- The code of a verdict. -/
def verdictCode : Verdict → Nat
  | .ok => 0
  | .over => 1
  | .under => 2
  | .notJudged => 3

/-- The code of the overdig state. -/
def overdigCode : Overdig → Nat
  | .inactive => 0
  | .active => 1

/-- The code of a node state. -/
def nodeStateCode : NodeState → Nat
  | .unseen => 0
  | .live => 1
  | .silent => 2
  | .fault => 3

/-- The code of a record status. -/
def recordStatusCode : RecordStatus → Nat
  | .opened => 0
  | .closed => 1
  | .complete => 2

/-- The code of a seat rejection reason. -/
def seatReasonCode : SeatReason → Nat
  | .phase => 0
  | .suspended => 1
  | .occupied => 2
  | .order => 3
  | .notRetracted => 4

/-- The code of a timer state. -/
def timerCode : Timer → Nat
  | .stopped => 0
  | .running _ _ => 1
  | .expired => 2

/-! ## Result codes (9.7) -/

/-- The result codes. -/
inductive ResultCode where
  | ok | clamped | replaced | refusedState | refusedOrder | refusedLocked | refusedHolding | refusedFull
  | refusedSequence | refusedCondition | badLength | badItem | unknownKind | notFound
  deriving DecidableEq, Repr

/-- The byte of a result code. -/
def resultByte : ResultCode → Byte
  | .ok => 0
  | .clamped => 1
  | .replaced => 2
  | .refusedState => 3
  | .refusedOrder => 4
  | .refusedLocked => 5
  | .refusedHolding => 6
  | .refusedFull => 7
  | .refusedSequence => 8
  | .refusedCondition => 9
  | .badLength => 10
  | .badItem => 11
  | .unknownKind => 12
  | .notFound => 13

/-! ## Event reports (R150; the table of event kinds in 9.7) -/

/-- The code of an event's kind. -/
def eventCode : EventBody → Nat
  | .strokeEnded _ => 0
  | .safeStop _ _ => 1
  | .resumed _ => 2
  | .hostSilent => 3
  | .faceHigh _ => 4
  | .faceLow _ => 5
  | .faceInvalid _ => 6
  | .rollAlarm _ => 7
  | .cutterStartSlow _ => 8
  | .cutterDerate _ => 9
  | .cutterStopped _ => 10
  | .groupStall _ _ => 11
  | .seatOffset _ _ => 12
  | .seatRejected _ _ => 13
  | .buildSuspended _ => 14
  | .buildResumed _ => 15
  | .ringClosed _ => 16
  | .lineHeld _ _ => 17
  | .lineResumed _ _ => 18
  | .lineBlocked _ _ => 19
  | .lineFlushed _ _ => 20
  | .groutHalt => 21
  | .groutLag _ => 22
  | .muckQueueFull => 23
  | .overdig _ _ => 24
  | .underdig _ _ => 25
  | .muckCleared _ => 26
  | .planRepeated _ => 27
  | .planExhausted => 28
  | .ringComplete _ => 29
  | .nodeSilent _ => 30
  | .nodeBack _ _ => 31
  | .nodeFault _ _ => 32
  | .freezeEnded _ => 33

/-- An event's subject, absent for kinds that carry none. -/
def eventSubject : EventBody → Option Nat
  | .safeStop c _ => some (causeCode c)
  | .groupStall g _ => some g.val
  | .seatOffset k _ => some k.val
  | .seatRejected k _ => some k
  | .lineHeld l _ => some l.val
  | .lineResumed l _ => some l.val
  | .lineBlocked l _ => some l.val
  | .lineFlushed l _ => some l.val
  | .overdig i _ => some i
  | .underdig i _ => some i
  | .nodeSilent r => some (roleIndex r).val
  | .nodeBack r _ => some (roleIndex r).val
  | .nodeFault r _ => some (roleIndex r).val
  | .strokeEnded _ | .resumed _ | .hostSilent | .faceHigh _ | .faceLow _ | .faceInvalid _ | .rollAlarm _
  | .cutterStartSlow _ | .cutterDerate _ | .cutterStopped _ | .buildSuspended _ | .buildResumed _ | .ringClosed _
  | .groutHalt | .groutLag _ | .muckQueueFull | .muckCleared _ | .planRepeated _ | .planExhausted | .ringComplete _
  | .freezeEnded _ => none

/-- The two value bytes of an event. -/
def eventValue : EventBody → List Byte
  | .strokeEnded l => encInt 2 l
  | .safeStop _ p => encNat 2 (phaseCode p)
  | .resumed p => encNat 2 (phaseCode p)
  | .hostSilent => allOnes 2
  | .faceHigh p => encNat 2 p
  | .faceLow p => encNat 2 p
  | .faceInvalid n => encNat 2 n
  | .rollAlarm r => encInt 2 r
  | .cutterStartSlow v => encOpt 2 v
  | .cutterDerate r => encNat 2 r
  | .cutterStopped v => encNat 2 v
  | .groupStall _ st => encNat 2 (groupStateCode st)
  | .seatOffset _ g => encNat 2 g
  | .seatRejected _ r => encNat 2 (seatReasonCode r)
  | .buildSuspended faceLost => encNat 2 (if faceLost then 1 else 0)
  | .buildResumed p => encNat 2 p
  | .ringClosed n => encNat 2 n
  | .lineHeld _ p => encNat 2 p
  | .lineResumed _ p => encNat 2 p
  | .lineBlocked _ c => encNat 2 (blockCauseCode c)
  | .lineFlushed _ p => encNat 2 p
  | .groutHalt => allOnes 2
  | .groutLag e => encNat 2 e
  | .muckQueueFull => encNat 2 32
  | .overdig _ r => encNat 2 r
  | .underdig _ r => encNat 2 r
  | .muckCleared n => encNat 2 n
  | .planRepeated n => encNat 2 n
  | .planExhausted => encNat 2 65535
  | .ringComplete n => encNat 2 n
  | .nodeSilent _ => allOnes 2
  | .nodeBack _ b => encNat 2 (nodeStateCode b)
  | .nodeFault _ echo => encNat 2 (if echo then 1 else 0)
  | .freezeEnded safeStop => encNat 2 (if safeStop then 1 else 0)

/-- The bytes of an event record in an event report (9.7, Cabin Link frame). -/
def encEvent (e : Event) : List Byte :=
  encNat 1 (eventCode e.body) ++ encOpt 2 (eventSubject e.body) ++ eventValue e.body ++ encNat 2 e.ring ++ encStamp e.stamp

/-! ## Command frames (R145, 9.7) -/

/-- The key of a command. -/
def keyOf : Command → ItemKey
  | .advanceRate _ => .advanceRate
  | .groupOrder g _ _ => .groupOrder g
  | .driveOrder _ _ _ => .driveOrder
  | .screwSpeed _ => .screwSpeed
  | .screwGate _ => .screwGate
  | .nextSector _ => .nextSector
  | .pumpOrder l _ => .pumpOrder l

/-- The role whose node a key belongs to (spec/08_machine_line.md 8.4). -/
def roleOfKey : ItemKey → Role
  | .advanceRate => .thrust
  | .groupOrder _ => .thrust
  | .driveOrder => .cutter
  | .screwSpeed => .screw
  | .screwGate => .screw
  | .nextSector => .erector
  | .pumpOrder l => .grout l

/-- The number of a key (9.7). -/
def keyCode : ItemKey → Nat
  | .advanceRate => 0
  | .groupOrder g => 1 + g.val
  | .driveOrder => 8
  | .screwSpeed => 9
  | .screwGate => 10
  | .nextSector => 11
  | .pumpOrder l => 12 + l.val

/-- The value fields of a command item (R145). -/
def encCommand : Command → List Byte
  | .advanceRate r => encNat 1 r
  | .groupOrder g o t => encNat 1 g.val ++ encNat 1 (groupOrderCode o) ++ encInt 2 t
  | .driveOrder o v d => encNat 1 (driveOrderCode o) ++ encNat 2 v ++ encNat 1 (directionCode d)
  | .screwSpeed v => encNat 2 v
  | .screwGate g => encNat 1 (gateCode g)
  | .nextSector k => encOpt 1 (k.map Fin.val)
  | .pumpOrder _ (some (k, ml)) => encNat 1 0 ++ encNat 1 (strokeKindCode k) ++ encNat 2 ml
  | .pumpOrder _ none => encNat 1 1 ++ encNat 1 0 ++ encNat 2 0

/-- The payload of the command frame that carries an item: the key, then the value fields. -/
def commandPayload (c : Command) : List Byte := encNat 1 (keyCode (keyOf c)) ++ encCommand c

end Sys2Proof.Machine
end

