-- ==== Sys2Proof/Machine/Ops.lean ====
section
/-! DEFINITION. The named operations that all blocks share: updates of one block, timers, the event queue (R149), the
command queue (R137, R138), the ring table's postings (R128 to R130) and the rate cap table (R6 to R8). -/

namespace Sys2Proof.Machine

/-! ## One block at a time -/

/-- Change the Advance and Build Unit. -/
def State.onAbu (s : State) (f : Abu → Abu) : State := { s with abu := f s.abu }
/-- Change the Face Balance Unit. -/
def State.onFbu (s : State) (f : Fbu → Fbu) : State := { s with fbu := f s.fbu }
/-- Change the Cutterhead Monitor. -/
def State.onChm (s : State) (f : Chm → Chm) : State := { s with chm := f s.chm }
/-- Change the Grout Unit. -/
def State.onGru (s : State) (f : Gru → Gru) : State := { s with gru := f s.gru }
/-- Change the Muck Balance Unit. -/
def State.onMbu (s : State) (f : Mbu → Mbu) : State := { s with mbu := f s.mbu }
/-- Change the Ring Record Unit. -/
def State.onRru (s : State) (f : Rru → Rru) : State := { s with rru := f s.rru }
/-- Change the Machine Line Port. -/
def State.onMlp (s : State) (f : Mlp → Mlp) : State := { s with mlp := f s.mlp }
/-- Change the Cabin Link Port. -/
def State.onClp (s : State) (f : Clp → Clp) : State := { s with clp := f s.clp }
/-- Change the Configuration Block. -/
def State.onCfb (s : State) (f : Cfb → Cfb) : State := { s with cfb := f s.cfb }

/-- Change one thrust group record. -/
def onGroup (g : Fin 7) (f : Group → Group) (s : State) : State :=
  s.onAbu fun a => { a with groups := updateAt a.groups g f }

/-- Change one sector record. -/
def onSector (k : Fin 7) (f : Sector → Sector) (s : State) : State :=
  s.onAbu fun a => { a with sectors := updateAt a.sectors k f }

/-- Change one grout line record. -/
def onLine (l : Fin 6) (f : Line → Line) (s : State) : State :=
  s.onGru fun g => { g with lines := updateAt g.lines l f }

/-- Change one node entry. -/
def onNode (r : Role) (f : Node → Node) (s : State) : State :=
  s.onMlp fun m => { m with nodes := updateAt m.nodes (roleIndex r) f }

/-- The entry of a role's node (R132). -/
def nodeOf (s : State) (r : Role) : Node := s.mlp.nodes[roleIndex r]

/-- The address setting of a role's node (R132, 10.2). -/
def addressOf (s : State) (r : Role) : Nat := s.cfb.node.address[roleIndex r]

/-- The silence timeout setting of a role's node (R135). -/
def timeoutOf (s : State) (r : Role) : Nat := s.cfb.node.timeout[roleIndex r]

/-! ## Timers (00_scope.md 4.2) -/

/-- A timer started or restarted now. -/
def startedTimer (s : State) (duration : Nat) : Timer := .running s.ms duration

/-- Whether a timer is running. -/
def isRunning : Timer → Bool
  | .running _ _ => true
  | _ => false

/-- The milliseconds since a time stamp, on the wrapping count. -/
def elapsed (now start : Stamp) : Nat := (now - start).toNat

/-! ## The event queue (R149) -/

/-- The ring number that an event carries where its rule names none: the newest record's, or 0 (R149). -/
def newestRing (s : State) : Nat :=
  match s.rru.records.getLast? with
  | some r => r.plan.ring
  | none => 0

/-- Place an event that carries a given ring number; at 32 records the oldest is lost and counted (R149). -/
def queueEventFor (ring : Nat) (b : EventBody) (s : State) : State :=
  s.onClp fun c =>
    if c.events.length < 32 then { c with events := c.events ++ [⟨b, ring, s.ms⟩] }
    else { c with events := c.events.tail ++ [⟨b, ring, s.ms⟩], lost := heldAdd 65535 c.lost 1 }

/-- Place an event whose rule names no ring number (R149). -/
def queueEvent (b : EventBody) (s : State) : State := queueEventFor (newestRing s) b s

/-! ## The command queue (R137, R138) -/

/-- Whether a waiting item has a given key; the key fixes the role. -/
def hasKey (k : ItemKey) (i : Item) : Bool := keyOf i.command == k

/-- Replace in place the waiting item of the new command's key, keeping its safety mark (R137). -/
def replaceItem (c : Command) (q : List Item) : List Item :=
  q.map fun i => if hasKey (keyOf c) i then { i with command := c } else i

/-- The queue after a block places an item (R137). -/
def placedQueue (c : Command) (q : List Item) : List Item :=
  if q.any (hasKey (keyOf c)) then replaceItem c q else q ++ [{ command := c, safety := false }]

/-- Place an item in the command queue (R137). -/
def placeItem (c : Command) (s : State) : State := s.onMlp fun m => { m with queue := placedQueue c m.queue }

/-- The queue after a set of safe-stop items enters at its head (R138). -/
def safeStopQueue (set : List Command) (q : List Item) : List Item :=
  set.map (fun c => { command := c, safety := true }) ++
    q.filter fun i => !(set.any fun c => hasKey (keyOf c) i)

/-- Clear the freeze flag and stop its timer; FREEZE_ENDED is queued with SAFE_STOP when the flag was set (R140). -/
def clearFreezeForSafeStop (s : State) : State :=
  let cleared := s.onMlp fun m => { m with frozen := false, freezeTimer := .stopped }
  if s.mlp.frozen then queueEvent (.freezeEnded true) cleared else cleared

/-- Place the set of safe-stop items at the head of the queue and clear the freeze (R138, R140). -/
def placeSafeStop (set : List Command) (s : State) : State :=
  clearFreezeForSafeStop (s.onMlp fun m => { m with queue := safeStopQueue set m.queue })

/-! ## Postings to ring records (R128 to R130) -/

/-- Change the record of a ring number; a ring number with no record is discarded (R130). -/
def onRecord (ring : Nat) (f : RingRecord → RingRecord) (s : State) : State :=
  s.onRru fun u => { u with records := u.records.map fun r => if r.plan.ring = ring then f r else r }

/-- Change the OPEN record, to which the ABU, the FBU and the CHM address their postings; a part made final with the
build part takes no posting (R128, R130). -/
def onOpenRecord (f : RingRecord → RingRecord) (s : State) : State :=
  s.onRru fun u =>
    { u with records := u.records.map fun r => if r.status = .opened ∧ r.buildFinal = false then f r else r }

/-- Post to the advance part of the OPEN record. -/
def postAdvance (f : AdvancePart → AdvancePart) : State → State := onOpenRecord fun r => { r with advance := f r.advance }

/-- Post to the face part of the OPEN record. -/
def postFacePart (f : FacePart → FacePart) : State → State := onOpenRecord fun r => { r with face := f r.face }

/-- Post to the cutter part of the OPEN record. -/
def postCutterPart (f : CutterPart → CutterPart) : State → State := onOpenRecord fun r => { r with cutter := f r.cutter }

/-- Post to the grout part of a ring's record, unless that part is final (R130). -/
def postGroutPart (ring : Nat) (f : GroutPart → GroutPart) : State → State :=
  onRecord ring fun r => if r.groutFinal then r else { r with grout := f r.grout }

/-- Post to the muck part of a ring's record, unless that part is final (R130). -/
def postMuckPart (ring : Nat) (f : MuckPart → MuckPart) : State → State :=
  onRecord ring fun r => if r.muckFinal then r else { r with muck := f r.muck }

/-- The final flags of a record (R126). -/
inductive FinalFlag where
  | build | grout | muck
  deriving DecidableEq, Repr

/-- Whether a final flag of a record is set. -/
def flagSet : FinalFlag → RingRecord → Bool
  | .build, r => r.buildFinal
  | .grout, r => r.groutFinal
  | .muck, r => r.muckFinal

/-- A record with a final flag set; the CUT mark is set only when RESTART makes the part final (R129). -/
def withFlag (flag : FinalFlag) (cut : Bool) (r : RingRecord) : RingRecord :=
  match flag with
  | .build => { r with buildFinal := true }
  | .grout => { r with groutFinal := true, groutCut := cut }
  | .muck => { r with muckFinal := true, muckCut := cut }

/-- Whether a record is CLOSED with its three parts final (R129). -/
def completes (r : RingRecord) : Bool := r.status == .closed && r.buildFinal && r.groutFinal && r.muckFinal

/-- Make a part of a ring's record final, and check the record for COMPLETE (R129). A part final already, or a ring with
no record, is left as it is. -/
def makeFinal (ring : Nat) (flag : FinalFlag) (cut : Bool) (s : State) : State :=
  match s.rru.records.find? (fun r => r.plan.ring == ring) with
  | none => s
  | some r =>
    if flagSet flag r then s
    else if completes (withFlag flag cut r) then
      queueEvent (.ringComplete ring) (onRecord ring (fun r => { withFlag flag cut r with status := .complete }) s)
    else onRecord ring (withFlag flag cut) s

/-! ## The rate cap table and the advance rate command (R6 to R8) -/

/-- The lesser of a rate and an entry; "no limit" is greater than any rate. -/
def capLeast (r : Nat) : Cap → Nat
  | .noLimit => r
  | .rate c => min r c

/-- The least entry of the rate cap table (R6). -/
def leastCap (c : Caps) : Nat :=
  capLeast (capLeast (capLeast (capLeast (capLeast c.plan c.cabin) c.face) c.cutter) c.grout) c.muck

/-- The first entry, in the order of R8, whose value is 0. -/
def firstZero (c : Caps) : Option CapEntry :=
  if c.plan = 0 then some .plan
  else if c.cabin = .rate 0 then some .cabin
  else if c.face = .rate 0 then some .face
  else if c.cutter = .rate 0 then some .cutter
  else if c.grout = .rate 0 then some .grout
  else if c.muck = .rate 0 then some .muck
  else none

/-- The advance rate command: the effective rate in BORING, 0 in every other phase (R7). -/
def rateCommand (p : Phase) (effective : Nat) : Nat := if p = .boring then effective else 0

/-- The held indicator (R8). -/
def heldIndicator (p : Phase) (c : Caps) : Option CapEntry :=
  if p = .boring ∧ leastCap c = 0 then firstZero c else none

/-- Send the advance rate command when it differs from the rate command sent (R7). -/
def sendRate (rate : Nat) (s : State) : State :=
  if rate = s.abu.rateSent then s else placeItem (.advanceRate rate) (s.onAbu fun a => { a with rateSent := rate })

/-- Count a hold when the effective rate falls from above 0 to 0 in BORING (R8). -/
def countHold (before after : Nat) (s : State) : State :=
  if s.abu.phase = .boring ∧ 0 < before ∧ after = 0 then
    postAdvance (fun p => { p with holds := heldAdd 255 p.holds 1 }) s
  else s

/-- Recompute the effective rate, the held indicator and the advance rate command (R6 to R8). -/
def recomputeRate (s : State) : State :=
  let effective := leastCap s.abu.caps
  let counted := countHold s.abu.effective effective s
  sendRate (rateCommand s.abu.phase effective)
    (counted.onAbu fun a => { a with effective := effective, held := heldIndicator a.phase a.caps })

/-- A posting to the rate cap table: one equal to the value held leaves the table unchanged, any other recomputes the
rate (R6). -/
def postCaps (f : Caps → Caps) (s : State) : State :=
  if f s.abu.caps = s.abu.caps then s else recomputeRate (s.onAbu fun a => { a with caps := f a.caps })

/-- Post the CABIN entry (R6, R15). -/
def postCabin (v : Cap) : State → State := postCaps fun c => { c with cabin := v }
/-- Post the FACE entry (R6, R34). -/
def postFace (v : Cap) : State → State := postCaps fun c => { c with face := v }
/-- Post the CUTTER entry (R6). -/
def postCutter (v : Cap) : State → State := postCaps fun c => { c with cutter := v }
/-- Post the GROUT entry (R6, R99). -/
def postGroutCap (v : Cap) : State → State := postCaps fun c => { c with grout := v }
/-- Post the MUCK entry (R6, R113). -/
def postMuckCap (v : Cap) : State → State := postCaps fun c => { c with muck := v }

/-- The MUCK entry that R113 gives, from the first row that applies. -/
def muckEntry (s : State) : Cap :=
  if (nodeOf s .belt).state = .silent ∨ (nodeOf s .belt).state = .fault then .rate 0
  else if s.mbu.openingPending then .rate 0
  else if s.mbu.overdig = .active then .rate (s.abu.caps.plan * 500 / 1000)
  else .noLimit

/-- The MBU posts the MUCK entry (R113). -/
def postMuck (s : State) : State := postMuckCap (muckEntry s) s

/-- The ABU sets the PLAN entry; at each change of it the MBU posts the MUCK entry (R3, R113). -/
def postPlan (rate : Nat) (s : State) : State :=
  if rate = s.abu.caps.plan then s
  else postMuck (recomputeRate (s.onAbu fun a => { a with caps := { a.caps with plan := rate } }))

/-- The PLAN entry for an active plan, 0 when there is none (R3). -/
def planRate : Option ActivePlan → Nat
  | none => 0
  | some p => p.plan.rate

end Sys2Proof.Machine
end

