-- ==== Sys2Proof/Machine/Cutter.lean ====
section
/-! DEFINITION. The Cutterhead Monitor's own operations: start, stop, speed and roll alarm (spec/03_cutterhead_monitor.md
R47 to R56). -/

namespace Sys2Proof.Machine

/-- The speed command of the mode in force: the manual speed, or the plan's cutter speed, 0 with no active plan (R49,
R56). -/
def cutterSpeed (s : State) : Nat :=
  match s.chm.mode with
  | .manual => s.chm.manualSpeed
  | .auto => match s.rru.active with
    | some p => p.plan.cutterSpeed
    | none => 0

/-- The direction chosen at START (R50). -/
def chooseDirection (rollMin : Nat) (plan : PlanDirection) (roll : Option Int) (held : Direction) : Direction :=
  match plan with
  | .cw => .cw
  | .ccw => .ccw
  | .auto => match roll with
    | none => held
    | some r => if (rollMin : Int) ≤ r then .cw else if r ≤ -(rollMin : Int) then .ccw else held

/-- The active plan's direction field; AUTO with no active plan. -/
def planDirection (s : State) : PlanDirection :=
  match s.rru.active with
  | some p => p.plan.direction
  | none => .auto

/-- Choose the direction at START and post it to the new record (R49 step 2, R50). -/
def setDirection (s : State) : State :=
  let d := chooseDirection s.cfb.cutter.rollMin (planDirection s) s.chm.roll s.chm.direction
  postCutterPart (fun p => { p with direction := d }) (s.onChm fun c => { c with direction := d })

/-- Place a drive order in the direction held, recording its speed as sent (R49, R54). -/
def driveOrder (o : DriveOrder) (speed : Nat) (s : State) : State :=
  placeItem (.driveOrder o speed s.chm.direction) (s.onChm fun c => { c with speedSent := speed })

/-- Start the cutterhead (R49 steps 1 and 3 to 5; step 2 is `setDirection`, at START only). -/
def startCutter (s : State) : State :=
  let started := postCutter (.rate 0) (driveOrder .run (cutterSpeed s) s)
  started.onChm fun c =>
    { c with state := .starting, band := none, startTimer := startedTimer s s.cfb.cutter.startMs }

/-- Whether the cutter state is STARTING or RUNNING. -/
def cutterTurning (s : State) : Bool := s.chm.state == .starting || s.chm.state == .running

/-- The CHM at entry into STROKE_END (R55). -/
def cutterStrokeEnd (s : State) : State :=
  if cutterTurning s then
    (postCutter (.rate 0) (driveOrder .stop 0 s)).onChm fun c => { c with state := .stopping, startTimer := .stopped }
  else s

/-- The CHM at entry into HALTED: its stop order goes with the safe-stop items (R55). -/
def cutterHalt (s : State) : State :=
  if cutterTurning s then
    (postCutter (.rate 0) (s.onChm fun c => { c with speedSent := 0 })).onChm fun c =>
      { c with state := .stopping, startTimer := .stopped }
  else s

/-- The contents of a CUTTER sample that the CHM acts on (R47). -/
structure CutterSample where
  running : Bool
  speed : Nat
  torque : Nat
  roll : Int
  deriving DecidableEq, Repr

/-- Read a CUTTER sample's payload: running flag, speed, torque, roll, direction, echoed speed, fault flag (R47, R145). A
speed, torque or roll outside its range is taken as it was sent (log 42). -/
def readCutterSample (p : List Byte) : CutterSample :=
  { running := flagAt p 0, speed := natAt p 1 2, torque := natAt p 3 2, roll := intAt p 5 2 }

/-- The roll alarm at a sample (R48). -/
def judgeRoll (roll : Int) (s : State) : State :=
  match s.chm.alarm with
  | .armed =>
    if s.cfb.cutter.rollAlarm ≤ roll.natAbs then
      queueEvent (.rollAlarm roll) (s.onChm fun c => { c with alarm := .raised })
    else s
  | .raised => if roll.natAbs < s.cfb.cutter.rollAlarm then s.onChm fun c => { c with alarm := .armed } else s

/-- Post the torque of a sample to the OPEN record in BORING (R47, R128). -/
def postTorque (t : Nat) (s : State) : State :=
  if s.abu.phase = .boring then
    postCutterPart (fun p => { p with maxTorque := some (match p.maxTorque with | none => t | some m => max m t) }) s
  else s

/-- The derated rate of a torque between the two levels (R52). -/
def deratedRate (c : CutterSettings) (plan t : Nat) : Nat :=
  plan * (c.torqueTrip - t) / (c.torqueTrip - c.torqueDerate)

/-- Judge the torque of a sample below the trip level (R52). -/
def judgeTorque (t : Nat) (s : State) : State :=
  if s.chm.speedSent = 0 then postCutter (.rate 0) s
  else if t ≤ s.cfb.cutter.torqueDerate then
    (postCutter .noLimit s).onChm fun c => { c with band := some .normal }
  else
    let r := deratedRate s.cfb.cutter s.abu.caps.plan t
    let posted := (postCutter (.rate r) s).onChm fun c => { c with band := some .derate }
    if s.chm.band = some .derate then posted else queueEvent (.cutterDerate r) posted

/-- A running drive that reports itself not running (R54). -/
def cutterDropOut (speed : Nat) (s : State) : State :=
  let stopping := s.onChm fun c => { c with state := .stopping, band := none }
  queueEvent (.cutterStopped speed) (postCutter (.rate 0) (driveOrder .stop 0 stopping))

/-- Whether a sample shows the drive at its command (R51). -/
def cutterArrived (x : CutterSample) (s : State) : Bool :=
  x.running && decide (0 < s.chm.speedSent) && decide (s.chm.speedSent * 900 ≤ x.speed * 1000)

/-- Form the speed command after CUTTER MANUAL or CUTTER AUTO (R56). -/
def formCutterSpeed (s : State) : State :=
  if cutterTurning s ∧ cutterSpeed s ≠ s.chm.speedSent then driveOrder .run (cutterSpeed s) s else s

/-- Expiry of the start timer (R51). -/
def startTimerExpires (s : State) : State :=
  if isRunning s.chm.startTimer then
    queueEvent (.cutterStartSlow s.chm.speed) (s.onChm fun c => { c with startTimer := .stopped })
  else s

end Sys2Proof.Machine
end

