-- ==== Sys2Proof/Machine/Groups.lean ====
section
/-! DEFINITION. The thrust groups and the sectors: orders, moves, the build order and the holding check
(spec/04_thrust_groups_and_ring_building.md R59 to R65, R74). -/

namespace Sys2Proof.Machine

/-- The record of a thrust group. -/
def groupOf (s : State) (g : Fin 7) : Group := s.abu.groups[g]

/-- The record of a sector. -/
def sectorOf (s : State) (k : Fin 7) : Sector := s.abu.sectors[k]

/-- The steering trim of a group under the active plan, 0 where the plan gives none (R60, R118). -/
def trimFor (s : State) (g : Fin 7) : Int :=
  match s.rru.active with
  | some p => p.plan.trims.getD g.val 0
  | none => 0

/-- The command of a group order: a PUSH carries the steering trim, every other order 0 (R60). -/
def groupCommand (s : State) (g : Fin 7) (o : GroupOrder) : Command :=
  .groupOrder g o (if o = .push then trimFor s g else 0)

/-- The duration of the move timer in ms (R61). -/
def moveMs : Nat := 60000

/-- The state that an order enters (4.1). -/
def orderedState : GroupOrder → GroupState
  | .push => .pushing
  | .hold => .holding
  | .retract => .retracting
  | .shove => .shoving
  | .recover => .recovering

/-- The move timer at entry into a state (R61). -/
def moveTimerFor (s : State) : GroupState → Timer
  | .retracting | .shoving | .recovering => startedTimer s moveMs
  | .pushing | .holding | .retracted => .stopped

/-- A group's record after an order is placed (R60, R61). -/
def orderedGroup (s : State) (o : GroupOrder) (x : Group) : Group :=
  { x with state := orderedState o, orderQueued := true, moveTimer := moveTimerFor s (orderedState o) }

/-- Order a group: its item is placed and its state set (R60). -/
def orderGroup (g : Fin 7) (o : GroupOrder) (s : State) : State :=
  placeItem (groupCommand s g o) (onGroup g (orderedGroup s o) s)

/-- Order every group that satisfies a condition, in group order (R62). -/
def orderGroups (o : GroupOrder) (p : Group → Bool) (s : State) : State :=
  allGroups.foldl (fun t g => if p (groupOf s g) then orderGroup g o t else t) s

/-- PUSH for every group, and every lock released (R5 steps 3 and 7, R62). -/
def releaseLocks (s : State) : State :=
  s.onAbu fun a => { a with groups := mapTable (fun _ x => { x with lock := false }) a.groups }

/-! ## Build order and expected sector (R63, R64) -/

/-- The build order of a key sector (R63). -/
def buildOrderOf (k : Fin 7) : Vector (Fin 7) 7 := #v[k + 3, k + 4, k + 2, k + 5, k + 1, k + 6, k]

/-- Whether a sector is PLACED or ACCEPTED. -/
def seated (x : Sector) : Bool := x.state == .placed || x.state == .accepted

/-- The expected sector: the first of the build order that is neither PLACED nor ACCEPTED (R63). -/
def expectedSector (s : State) : Option (Fin 7) :=
  match s.abu.buildOrder with
  | none => none
  | some o => o.toList.find? fun k => !seated (sectorOf s k)

/-- Form the expected sector anew; at a change of it the next-sector item is placed (R63). -/
def formExpected (s : State) : State :=
  if expectedSector s = s.abu.expected then s
  else placeItem (.nextSector (expectedSector s)) (s.onAbu fun a => { a with expected := expectedSector s })

/-- Start the build's tables at ENTER BUILD, with the next-sector item (R13, R63, R64). -/
def startBuild (k : Fin 7) (s : State) : State :=
  let tabled := s.onAbu fun a =>
    { a with buildOrder := some (buildOrderOf k), sectors := Vector.replicate 7 Sector.reset, suspensions := 0 }
  placeItem (.nextSector (expectedSector tabled)) (tabled.onAbu fun a => { a with expected := expectedSector tabled })

/-! ## The holding check (R65) -/

/-- The number of groups in HOLDING, of those that satisfy a condition. -/
def holdingCount (s : State) (p : Fin 7 → Bool) : Nat :=
  (allGroups.filter fun g => p g && (groupOf s g).state == .holding).length

/-- The holding force in kN (R65). -/
def holdingForce (s : State) : Nat := holdingCount s (fun _ => true) * s.cfb.thrust.groupForce

/-- The holding force of the groups other than one (R66). -/
def holdingForceWithout (s : State) (g : Fin 7) : Nat := holdingCount s (fun k => k != g) * s.cfb.thrust.groupForce

/-- The required holding force of a pressure in kN, rounded up (R65). -/
def requiredForce (s : State) (pw : Nat) : Nat :=
  ceilDiv (pw * s.cfb.aFace.getD 0 * s.cfb.thrust.holdMargin) 1000000000

/-- F_req, when the face is VALID (R65). -/
def requiredNow (s : State) : Option Nat :=
  if s.fbu.valid then s.fbu.pw.map (requiredForce s) else none

/-- The check of staying in BUILDING (R65, R73). -/
def staysBuilding (s : State) : Bool :=
  match requiredNow s with
  | none => false
  | some f => decide (f ≤ holdingForce s)

/-- The check of leaving BUILD_SUSPENDED (R65, R75). -/
def resumesBuilding (s : State) : Bool :=
  match requiredNow s with
  | none => false
  | some f => decide (f * 1050 ≤ holdingForce s * 1000)

/-! ## Moves (R59) -/

/-- The contents of a THRUST sample (R9, R59). -/
structure ThrustSample where
  position : Int
  rate : Nat
  groups : Vector GroupPosition 7
  deriving DecidableEq, Repr

/-- Read a THRUST sample's payload: position, rate, seven group positions, echoed rate, fault flag (R59, R145). -/
def readThrustSample (p : List Byte) : ThrustSample :=
  { position := intAt p 0 4, rate := natAt p 4 2
    groups := Vector.ofFn fun g : Fin 7 => groupPositionOf (byteAt p (6 + g.val)) }

/-- Store the reported positions (R59). -/
def storePositions (x : ThrustSample) (s : State) : State :=
  s.onAbu fun a => { a with groups := mapTable (fun g y => { y with position := some x.groups[g] }) a.groups }

/-- End the move of one group if its reported position completes it (R59). -/
def endMove (g : Fin 7) (s : State) : State :=
  let x := groupOf s g
  match x.state, x.position with
  | .retracting, some .retracted =>
    if x.recoverPending then
      orderGroup g .recover (onGroup g (fun y => { y with recoverPending := false }) s)
    else onGroup g (fun y => { y with state := .retracted, moveTimer := .stopped }) s
  | .shoving, some .extended => onGroup g (fun y => { y with state := .holding, moveTimer := .stopped }) s
  | .recovering, some .extended => onGroup g (fun y => { y with state := .holding, moveTimer := .stopped }) s
  | _, _ => s

/-- End every move that the stored positions complete, in group order (R59; log 37). -/
def endMoves (s : State) : State := allGroups.foldl (fun t g => endMove g t) s

/-- The group states, in group order. -/
def groupStates (s : State) : List GroupState := allGroups.map fun g => (groupOf s g).state

/-- Expiry of a group's move timer (R61). -/
def moveTimerExpires (g : Fin 7) (s : State) : State :=
  if isRunning (groupOf s g).moveTimer then
    queueEvent (.groupStall g (groupOf s g).state) (onGroup g (fun x => { x with moveTimer := .expired }) s)
  else s

/-! ## Suspension and safe stop (R60, R62, R74) -/

/-- What an entry into BUILD_SUSPENDED does to one group (R74). -/
def suspendGroup (g : Fin 7) (s : State) : State :=
  let x := groupOf s g
  match x.state with
  | .retracted => orderGroup g .recover s
  | .retracting =>
    if x.orderQueued then orderGroup g .hold s else onGroup g (fun y => { y with recoverPending := true }) s
  | .shoving | .recovering | .holding | .pushing => s

/-- What an entry into BUILD_SUSPENDED does to the groups (R74). -/
def suspendGroups (s : State) : State := allGroups.foldl (fun t g => suspendGroup g t) s

/-- The order that a safe stop gives a group, when it gives one (R17, R60, R62). -/
def haltOrder (x : Group) : Option GroupOrder :=
  match x.state with
  | .pushing => some .hold
  | .retracted => some .recover
  | .retracting => if x.orderQueued then some .hold else none
  | .holding | .shoving | .recovering => none

/-- A group's record after the orders of a safe stop; a RETRACTING group whose order has left gains recover pending
(R60, R62). -/
def haltedGroup (s : State) (x : Group) : Group :=
  match haltOrder x with
  | some o => orderedGroup s o x
  | none => if x.state = .retracting then { x with recoverPending := true } else x

/-- The group orders of a safe stop: HOLD for PUSHING groups, RECOVER for RETRACTED groups, HOLD for groups withdrawn
(R17, R62; log 30). -/
def haltOrders (s : State) : List Command :=
  let ordered (st : GroupState) : List Command :=
    allGroups.filterMap fun g =>
      if (groupOf s g).state = st then (haltOrder (groupOf s g)).map (groupCommand s g) else none
  ordered .pushing ++ ordered .retracted ++ ordered .retracting

/-- The groups after a safe stop (R62). -/
def haltGroups (s : State) : State :=
  s.onAbu fun a => { a with groups := mapTable (fun _ x => haltedGroup s x) a.groups }

/-- The set of safe-stop items, in the order of R17. The STOP carries the direction held, outside a stroke too (log 43). -/
def safeStopSet (s : State) : List Command :=
  [.advanceRate 0, .driveOrder .stop 0 s.chm.direction, .screwSpeed 0, .screwGate .closed] ++ haltOrders s

end Sys2Proof.Machine
end

