-- ==== Sys2Proof/Machine/Grout.lean ====
section
/-! DEFINITION. The Grout Unit's own operations: shares, the GROUT entry, accrual, issue and credit of strokes, blockage,
and the lines through the cycle (spec/05_grout_injection.md R82 to R101). -/

namespace Sys2Proof.Machine

/-- The record of a grout line. -/
def lineOf (s : State) (l : Fin 6) : Line := s.gru.lines[l]

/-- Whether a grout line is BLOCKED. -/
def lineBlocked (s : State) (l : Fin 6) : Bool := (lineOf s l).state == .blocked

/-- Whether all six grout lines are BLOCKED. -/
def allBlocked (s : State) : Bool := allLines.all (lineBlocked s)

/-- The volume of a stroke in nl. -/
def strokeNl (g : GroutSettings) : Nat := g.strokeMl * 1000000

/-- The greatest value of an accumulator in nl (R82). -/
def accCap (g : GroutSettings) : Nat := 4 * g.strokeMl * 1000000

/-! ## Shares (R97) -/

/-- The other lines clockwise from a line, nearest first. -/
def clockwiseFrom (l : Fin 6) : List (Fin 6) := [l + 1, l + 2, l + 3, l + 4, l + 5]

/-- The other lines counter-clockwise from a line, nearest first. -/
def counterClockwiseFrom (l : Fin 6) : List (Fin 6) := [l - 1, l - 2, l - 3, l - 4, l - 5]

/-- What line `dest` takes of the base share of line `l`: half rounded up when it is the nearest clockwise line that is
not BLOCKED, half rounded down when it is the nearest counter-clockwise (R97 step 2). -/
def shareMoved (base : Vector Nat 6) (blocked : Fin 6 → Bool) (l dest : Fin 6) : Nat :=
  if blocked l then
    (if (clockwiseFrom l).find? (fun k => !blocked k) = some dest then (base[l] + 1) / 2 else 0) +
      (if (counterClockwiseFrom l).find? (fun k => !blocked k) = some dest then base[l] / 2 else 0)
  else 0

/-- The effective share of a line (R97). -/
def effectiveShare (base : Vector Nat 6) (blocked : Fin 6 → Bool) (l : Fin 6) : Nat :=
  if blocked l then 0 else base[l] + (allLines.map fun k => shareMoved base blocked k l).sum

/-! ## The GROUT entry (R99) -/

/-- The deficit D in ml (R99). -/
def deficit (s : State) : Int :=
  if s.gru.groutRing.isNone then 0 else (s.gru.demand / 1000000 : Nat) - (s.gru.delivered : Int)

/-- The entry and the lag band of a deficit (R99 rows 2 to 4). -/
def lagEntry (g : GroutSettings) (plan : Nat) (d : Int) : Cap × LagBand :=
  if d ≤ g.lagWarn then (.noLimit, .none)
  else if d < g.lagStop then (.rate (plan * (g.lagStop - d).toNat / (g.lagStop - g.lagWarn)), .lag)
  else (.rate 0, .stop)

/-- The number that GROUT_LAG carries for a posted entry. -/
def capValue : Cap → Nat
  | .noLimit => 255
  | .rate r => r

/-- Post the GROUT entry (R99). -/
def postGrout (s : State) : State :=
  if allBlocked s then
    let posted := (postGroutCap (.rate 0) s).onGru fun g => { g with haltPosted := true }
    if s.gru.haltPosted then posted else queueEvent .groutHalt posted
  else
    let e := lagEntry s.cfb.grout s.abu.caps.plan (deficit s)
    let posted := (postGroutCap e.1 s).onGru fun g => { g with band := e.2, haltPosted := false }
    if e.2 ≠ s.gru.band ∧ e.2 ≠ .none then queueEvent (.groutLag (capValue e.1)) posted else posted

/-- Recompute the effective shares of all lines and post the GROUT entry (R97, R99). -/
def recomputeShares (s : State) : State :=
  postGrout (s.onGru fun g =>
    { g with
      lines := mapTable (fun l x => { x with share := effectiveShare s.cfb.grout.baseShares (lineBlocked s) l }) g.lines })

/-! ## Finishing a ring's grout part (R100) -/

/-- Finish a ring's grout part: post its demand and deficit and make the part final (R100, R101). -/
def finishGrout (ring demandNl delivered : Nat) (cut : Bool) (s : State) : State :=
  makeFinal ring .grout cut
    (postGroutPart ring
      (fun p =>
        { p with demandMl := demandNl / 1000000, deficit := (demandNl / 1000000 : Nat) - (delivered : Int) }) s)

/-- A stroke of a finishing-list entry has ended with a credit, 0 when it was abandoned: the entry's strokes in flight
fall by one, and at 0 it is finished and leaves the list (R86, R90, R100). -/
def endFinishingStroke (ring credit : Nat) (s : State) : State :=
  match s.gru.finishing.find? (fun e => e.ring == ring) with
  | none => s
  | some e =>
    if e.inFlight ≤ 1 then
      finishGrout ring e.demand (e.delivered + credit) false
        (s.onGru fun g => { g with finishing := g.finishing.filter fun x => x.ring != ring })
    else
      s.onGru fun g =>
        { g with
          finishing := g.finishing.map fun x =>
            if x.ring = ring then { x with delivered := x.delivered + credit, inFlight := x.inFlight - 1 } else x }

/-- Abandon the stroke in flight of a line uncredited (R90 step 2). -/
def abandonStroke (l : Fin 6) (s : State) : State :=
  match (lineOf s l).stroke with
  | none => s
  | some k =>
    let ended := onLine l (fun x => { x with stroke := none, strokeTimer := .stopped }) s
    match k.ring with
    | none => ended
    | some r => endFinishingStroke r 0 ended

/-- Entry into BLOCKED (R90). -/
def blockLine (l : Fin 6) (c : BlockCause) (s : State) : State :=
  let marked := onLine l (fun x => { x with state := .blocked, cause := some c }) s
  let stopped := placeItem (.pumpOrder l none) (abandonStroke l marked)
  let cleared := onLine l (fun x => { x with topUp := 0, flush := 0, periodTimer := .stopped }) stopped
  recomputeShares (queueEvent (.lineBlocked l c) cleared)

/-! ## Issue (R83 to R85) -/

/-- Whether row 1 of R83 applies, under the P_max in force since the line's latest sample: a top-up stroke (log 48). -/
def topUpDue (x : Line) : Bool :=
  decide (0 < x.topUp) &&
    (x.state == .running ||
      (x.state == .idle && match x.pressure with | none => true | some p => decide (p ≤ x.pMaxInForce)))

/-- The row of R83 that a line's record satisfies: the kind of stroke and what the issue takes from the record. -/
def issueRow (g : GroutSettings) (x : Line) : Option (StrokeKind × Line) :=
  if topUpDue x then some (.grout, { x with topUp := x.topUp - 1 })
  else if x.state = .running ∧ x.mode = .locked ∧ strokeNl g ≤ x.acc then some (.grout, { x with acc := x.acc - strokeNl g })
  else if x.state = .running ∧ x.mode = .free ∧ x.periodTimer = .expired then some (.grout, x)
  else if x.state = .flushing ∧ 0 < x.flush then some (.water, { x with flush := x.flush - 1 })
  else none

/-- The period timer after an issue, under the mode taken over (R83, R85). -/
def periodAfterIssue (s : State) (x : Line) : Timer :=
  match x.mode with
  | .locked => .stopped
  | .free => if x.state = .running then startedTimer s x.period else x.periodTimer

/-- A line's record after an issue: the stroke in flight, and the pending mode and period taken over (R83). -/
def issuedLine (s : State) (kind : StrokeKind) (x : Line) : Line :=
  let taken := { x with mode := x.pendingMode, period := x.pendingPeriod }
  { taken with
    stroke := some { kind := kind, volume := s.cfb.grout.strokeMl, ring := s.gru.groutRing, issued := s.ms, sent := false }
    periodTimer := periodAfterIssue s taken }

/-- Whether a line may issue at all: no stroke in flight, the phase not HALTED, the line's node LIVE (R83). -/
def mayIssue (s : State) (l : Fin 6) : Bool :=
  (lineOf s l).stroke.isNone && !(s.abu.phase == .halted) && (nodeOf s (.grout l)).state == .live

/-- The issue check of a line (R83, R84). -/
def issueCheck (l : Fin 6) (s : State) : State :=
  if mayIssue s l then
    match issueRow s.cfb.grout (lineOf s l) with
    | none => s
    | some (kind, x) =>
      placeItem (.pumpOrder l (some (kind, s.cfb.grout.strokeMl))) (onLine l (fun _ => issuedLine s kind x) s)
  else s

/-- The issue check for every line, in line order (R83, R96). -/
def issueAll (s : State) : State := allLines.foldl (fun t l => issueCheck l t) s

/-- Whether a line's record is what it was, its base share with it (R81). -/
def sameLine (before s : State) (l : Fin 6) : Bool :=
  decide (lineOf s l = lineOf before l) && s.cfb.grout.baseShares[l] == before.cfb.grout.baseShares[l]

/-- The issue check, in line order, for every line whose record is not what it was (R83). -/
def issueChanged (before s : State) : State :=
  allLines.foldl (fun t l => if sameLine before s l then t else issueCheck l t) s

/-- Entry into BLOCKED, and the issue checks for the lines whose records it changes (R90, R83). -/
def blockAndCheck (l : Fin 6) (c : BlockCause) (s : State) : State := issueChanged s (blockLine l c s)

/-! ## Accrual (R82) -/

/-- Whether a line accrues: mode LOCKED and not BLOCKED (R82). -/
def accrues (x : Line) : Bool := x.mode == .locked && !(x.state == .blocked)

/-- The fill of the active plan; there is one whenever an increment comes (log 32). -/
def planFill (s : State) : Nat :=
  match s.rru.active with
  | some p => p.plan.fill
  | none => 0

/-- The demand of one advance increment per mille of share, in nl: Δ × V_void × fill (R82). -/
def incrementNl (s : State) (mm : Nat) : Nat := mm * s.cfb.vVoid.getD 0 * planFill s

/-- Add the demand of an increment to the ring and to the lines (R82). -/
def accrue (mm : Nat) (s : State) : State :=
  let unit := incrementNl s mm
  s.onGru fun g =>
    { g with
      demand := g.demand + unit * 1000
      lines := mapTable
        (fun _ x => { x with acc := min (accCap s.cfb.grout) (if accrues x then x.acc + unit * x.share else x.acc) })
        g.lines }

/-- The GRU at an advance increment: accrual, issue checks, the GROUT entry (R82). -/
def groutAdvance (mm : Nat) (s : State) : State := postGrout (issueAll (accrue mm s))

/-- Clamp every accumulator to the cap of the stroke volume in force, at a write of stroke_ml (R82). -/
def clampAccumulators (s : State) : State :=
  s.onGru fun g => { g with lines := mapTable (fun _ x => { x with acc := min (accCap s.cfb.grout) x.acc }) g.lines }

/-! ## Completion (R86, R93) -/

/-- The longest duration of the stroke in flight: that of its running stroke timer, which a later write of stroke_max_ms
does not change (R86, R102; log 20). -/
def strokeLimit (s : State) (x : Line) : Nat :=
  match x.strokeTimer with
  | .running _ d => d
  | _ => s.cfb.grout.strokeMaxMs

/-- Credit a GROUT stroke of a line to the grout ring: totals, the line's figures, and the ring's record (R86). -/
def creditGroutRing (ring : Nat) (l : Fin 6) (ml : Nat) (s : State) : State :=
  let credited :=
    onLine l
      (fun x => { x with ringVolume := x.ringVolume + ml, ringStrokes := heldAdd 65535 x.ringStrokes 1 })
      (s.onGru fun g => { g with delivered := g.delivered + ml })
  let x := lineOf credited l
  postGroutPart ring
    (fun p => { p with lines := p.lines.set l { ml := x.ringVolume, strokes := x.ringStrokes } }) credited

/-- Credit a GROUT stroke of a line to a ring of the finishing list (R86; log 28). -/
def creditFinishing (ring : Nat) (l : Fin 6) (ml : Nat) (s : State) : State :=
  endFinishingStroke ring ml
    (postGroutPart ring
      (fun p =>
        { p with
          lines := updateAt p.lines l fun f => { ml := f.ml + ml, strokes := heldAdd 65535 f.strokes 1 } }) s)

/-- Credit a GROUT stroke that ended within its limit (R86). -/
def creditStroke (l : Fin 6) (k : Stroke) (efficiency : Nat) (s : State) : State :=
  let ml := k.volume * min 1000 efficiency / 1000
  match k.ring with
  | none => s.onGru fun g => { g with unattributed := g.unattributed + ml }
  | some r =>
    if s.gru.groutRing = some r then creditGroutRing r l ml s
    else if s.gru.finishing.any (fun e => e.ring == r) then creditFinishing r l ml s
    else s

/-- The end of a flush: PAUSED below the P_resume in force since the line's latest sample, BLOCKED otherwise (R93, log 48;
an absent pressure by log 21). -/
def endFlush (l : Fin 6) (s : State) : State :=
  match (lineOf s l).pressure with
  | some p =>
    if p < (lineOf s l).pResumeInForce then
      queueEvent (.lineFlushed l p) (onLine l (fun x => { x with state := .paused, periodTimer := .stopped }) s)
    else blockAndCheck l .pressure s
  | none => blockAndCheck l .pressure s

/-- The finishing-list entry of a WATER stroke's ring has one stroke in flight less, with nothing credited (R80, R86;
log 40). -/
def countWater (k : Stroke) (s : State) : State :=
  match k.ring with
  | none => s
  | some r => endFinishingStroke r 0 s

/-- A WATER stroke that ended within its limit (R86, R93). -/
def endWater (l : Fin 6) (k : Stroke) (s : State) : State :=
  let counted := countWater k s
  if (lineOf s l).state = .flushing ∧ (lineOf s l).flush = 0 then endFlush l counted else counted

/-- Whether a credit went to the grout ring, after which the GROUT entry is posted (R86). -/
def creditsGroutRing (s : State) (k : Stroke) : Bool :=
  k.kind == .grout && k.ring.isSome && k.ring == s.gru.groutRing

/-- A done report of a line's pump (R86). -/
def doneReport (l : Fin 6) (kind : Option StrokeKind) (duration efficiency : Nat) (s : State) : State :=
  match (lineOf s l).stroke with
  | none => s
  | some k =>
    if k.sent = false ∨ kind ≠ some k.kind then s
    else if strokeLimit s (lineOf s l) < duration then blockAndCheck l .stall s
    else
      let ended := onLine l (fun x => { x with stroke := none, strokeTimer := .stopped }) s
      let credited := match k.kind with
        | .grout => creditStroke l k efficiency ended
        | .water => endWater l k ended
      let checked := issueCheck l credited
      if creditsGroutRing s k then postGrout checked else checked

/-- Expiry of a line's stroke timer (R87). -/
def strokeTimerExpires (l : Fin 6) (s : State) : State :=
  if isRunning (lineOf s l).strokeTimer then blockAndCheck l .stall s else s

/-- Expiry of a line's period timer, and the issue check (R85). -/
def periodTimerExpires (l : Fin 6) (s : State) : State :=
  if isRunning (lineOf s l).periodTimer then
    issueCheck l (onLine l (fun x => { x with periodTimer := .expired }) s)
  else s

/-! ## Pressure and the node (R88, R89) -/

/-- A line made RUNNING: a FREE line starts its period timer, unless it comes from HELD with the timer still running or
expired (R85). -/
def becomeRunning (s : State) (x : Line) : Line :=
  { x with
    state := .running
    periodTimer :=
      if x.mode = .free ∧ (x.state ≠ .held ∨ x.periodTimer = .stopped) then startedTimer s x.period else x.periodTimer }

/-- Judge the pressure of a GROUT sample (R88). -/
def judgePressure (l : Fin 6) (p : Nat) (s : State) : State :=
  let x := lineOf s l
  if x.state ≠ .blocked ∧ s.cfb.grout.pBurst ≤ p then blockAndCheck l .pressure s
  else if x.state = .running ∧ s.cfb.grout.pMax < p then
    queueEvent (.lineHeld l p) (onLine l (fun x => { x with state := .held }) s)
  else if x.state = .held ∧ p < s.cfb.grout.pResume then
    queueEvent (.lineResumed l p)
      (if s.abu.phase = .boring then onLine l (becomeRunning s) s
       else onLine l (fun x => { x with state := .idle, periodTimer := .stopped }) s)
  else s

/-- The record of a line that a GROUT sample reaches: the pressure, and the pressure settings now in force (R88, R102). -/
def sampledLine (g : GroutSettings) (p : Nat) (x : Line) : Line :=
  { x with pressure := some p, pMaxInForce := g.pMax, pResumeInForce := g.pResume }

/-- A GROUT sample delivered to the GRU (R88). -/
def groutSample (l : Fin 6) (p : Nat) (s : State) : State :=
  issueCheck l (judgePressure l p (onLine l (sampledLine s.cfb.grout p) s))

/-- The GRU at a change of a GROUT node's state (R89). -/
def groutNodeChanged (l : Fin 6) (st : NodeState) (s : State) : State :=
  match st with
  | .silent | .fault => if lineBlocked s l then s else blockAndCheck l .node s
  | .live => issueCheck l s
  | .unseen => s

/-! ## The lines through the cycle (R96, R100, R101) -/

/-- The mode that START sets on a line: the plan's, or LOCKED (R96). -/
def startMode (s : State) (l : Fin 6) : LineMode :=
  match s.rru.active with
  | some p => match p.plan.lineModes with
    | some m => m[l]
    | none => .locked
  | none => .locked

/-- The lines at START (R96). The period timer of a HELD line that becomes LOCKED stays as it stands (log 44). -/
def startLines (s : State) : State :=
  s.onGru fun g =>
    { g with
      lines := mapTable
        (fun l x =>
          let moded := { x with mode := startMode s l, pendingMode := startMode s l, period := x.pendingPeriod }
          if x.state = .idle then becomeRunning s moded else moded)
        g.lines }

/-- The lines at RESUME into BORING (R96). -/
def resumeLines (s : State) : State :=
  s.onGru fun g => { g with lines := mapTable (fun _ x => if x.state = .idle then becomeRunning s x else x) g.lines }

/-- The lines at entry into STROKE_END (R96). -/
def strokeEndLines (s : State) : State :=
  s.onGru fun g =>
    { g with
      lines := mapTable
        (fun _ x => if x.state = .running then { x with state := .idle, periodTimer := .stopped } else x) g.lines }

/-- The number of strokes in flight that carry a ring's number. -/
def strokesInFlight (s : State) (ring : Nat) : Nat :=
  (allLines.filter fun l => (lineOf s l).stroke.any fun k => k.ring == some ring).length

/-- Leave the grout ring held: to the finishing list while strokes of it are in flight, else finished at once (R100). -/
def leaveGroutRing (s : State) : State :=
  match s.gru.groutRing with
  | none => s
  | some r =>
    if strokesInFlight s r = 0 then finishGrout r s.gru.demand s.gru.delivered false s
    else
      s.onGru fun g =>
        { g with
          finishing := g.finishing ++
            [{ ring := r, demand := g.demand, delivered := g.delivered, inFlight := strokesInFlight s r }] }

/-- The grout ring changes at START (R100). -/
def changeGroutRing (ring : Nat) (s : State) : State :=
  postGrout ((leaveGroutRing s).onGru fun g =>
    { g with
      groutRing := some ring
      demand := 0
      delivered := 0
      lines := mapTable (fun _ x => { x with ringStrokes := 0, ringVolume := 0 }) g.lines })

/-- Place a pump order STOP for each line that had a stroke in flight (R101). -/
def stopPumps (s : State) : State :=
  allLines.foldl (fun t l => if (lineOf s l).stroke.isSome then placeItem (.pumpOrder l none) t else t) s

/-- RESTART of the GRU: strokes abandoned, the grout parts finished with CUT, the values of R80 and R81 (R101). -/
def restartGrout (s : State) : State :=
  let finished := s.gru.finishing.foldl (fun t e => finishGrout e.ring e.demand e.delivered true t) (stopPumps s)
  let ended := match s.gru.groutRing with
    | none => finished
    | some r => finishGrout r s.gru.demand s.gru.delivered true finished
  ended.onGru fun _ => Gru.reset s.cfb.grout

end Sys2Proof.Machine
end

