-- ==== Sys2Proof/Machine/Face.lean ====
section
/-! DEFINITION. The Face Balance Unit's own operations: the screw command, the gate, the bias, and the seven stages of a
face evaluation (spec/02_face_balance.md R25 to R44). -/

namespace Sys2Proof.Machine

/-! ## The screw command (R38 to R41) -/

/-- The feed-forward screw speed S_base (R38). -/
def screwBase (f : FaceSettings) (v : Nat) : Nat := (v * f.kFf + 500) / 1000

/-- The manual value clamped to 0 to S_max (R39 row 2). -/
def manualApplied (s : State) : Nat := clampNat 0 s.cfb.face.screwMax s.fbu.manual

/-- The command sum S_base + trim clamped to S_min to S_max (R39 row 5). -/
def loopCommand (s : State) : Nat :=
  (clampInt s.cfb.face.screwMin s.cfb.face.screwMax (screwBase s.cfb.face s.fbu.v + s.fbu.trim)).toNat

/-- The screw command S_cmd: the first row of R39 that applies. -/
def screwCommand (s : State) : Nat :=
  if s.abu.phase = .halted then 0
  else if s.fbu.screwMode = .manual then manualApplied s
  else if s.abu.phase ≠ .boring then 0
  else if s.fbu.faceClass = some .low then 0
  else loopCommand s

/-- Send a screw speed when it differs from the screw command sent (R40). -/
def sendScrew (speed : Nat) (s : State) : State :=
  if speed = s.fbu.screwSent then s else placeItem (.screwSpeed speed) (s.onFbu fun f => { f with screwSent := speed })

/-- Form the screw command (R40). -/
def formScrew (s : State) : State := sendScrew (screwCommand s) s

/-- Order the screw gate, unless the gate command sent already holds that order (R41). -/
def orderGate (g : Gate) (s : State) : State :=
  if g = s.fbu.gateSent then s else placeItem (.screwGate g) (s.onFbu fun f => { f with gateSent := g })

/-- The trim that SCREW AUTO re-seeds in BORING (R44). -/
def reseededTrim (s : State) : Int :=
  clampInt (-500) 500 ((manualApplied s : Int) - (screwBase s.cfb.face s.fbu.v : Int))

/-! ## The target bias (R32) -/

/-- The FBU adds a bias step posted by the MBU, clamped to bias_max (R32). -/
def addBias (step : Nat) (s : State) : State :=
  s.onFbu fun f => { f with bias := clampNat 0 s.cfb.face.biasMax (f.bias + step) }

/-! ## Stages 1 to 3: validity, axis correction, working pressure (R26 to R28) -/

/-- Whether cell `i` is masked: the bit of value 2^i of cell_mask (R26, R155). -/
def cellMasked (g : GeometrySettings) (i : Fin 5) : Bool := g.cellMask / 2 ^ i.val % 2 == 1

/-- Whether a cell's reading is valid (R26). -/
def cellValid (g : GeometrySettings) (i : Fin 5) (raw : Nat) (fault : Bool) : Bool :=
  !fault && decide (1 ≤ raw) && decide (raw ≤ 999) && !cellMasked g i

/-- The corrected value of a valid cell (R27). -/
def cellCorrected (gamma : Nat) (height : Int) (raw : Nat) : Nat :=
  (clampInt 0 1100 ((raw : Int) + roundDiv ((gamma : Int) * height) 1000)).toNat

/-- The record of cell `i` after a sample (R25 to R27); a raw value above 1000 is kept as it was sent (log 42). -/
def cellRecord (c : Cfb) (i : Fin 5) (raw : Nat) (fault : Bool) : Cell :=
  if cellValid c.geometry i raw fault then
    { raw := some raw, fault := fault, valid := true
      corrected := some (cellCorrected c.face.gamma c.geometry.cellHeight[i] raw) }
  else { raw := some raw, fault := fault, valid := false, corrected := none }

/-- The contents of a FACE sample: for each cell the raw pressure and the fault flag (R25). -/
structure FaceSample where
  cells : Vector (Nat × Bool) 5
  deriving DecidableEq, Repr

/-- Read a FACE sample's payload: per cell two bytes of pressure and one flag (R25, R145). -/
def readFaceSample (p : List Byte) : FaceSample :=
  { cells := Vector.ofFn fun i : Fin 5 => (natAt p (3 * i.val) 2, flagAt p (3 * i.val + 2)) }

/-- The five cell records after a sample. -/
def cellRecords (c : Cfb) (x : FaceSample) : Vector Cell 5 :=
  mapTable (fun i r => cellRecord c i r.1 r.2) x.cells

/-- The corrected values of the valid cells, ascending (R28). -/
def sortedCorrected (cells : Vector Cell 5) : List Nat :=
  sortByKey (fun n => n) (allCells.filterMap fun i => cells[i].corrected)

/-- The lower median of ascending values (00_scope.md 4.4). -/
def lowerMedian (xs : List Nat) : Option Nat := xs[(xs.length - 1) / 2]?

/-- The face-invalid timer after an evaluation (R29). -/
def invalidTimerAfter (s : State) (valid : Bool) : Timer :=
  if valid then .stopped
  else match s.fbu.invalidTimer with
    | .stopped => startedTimer s s.cfb.face.faceInvalidMs
    | t => t

/-- Stages 1 to 3 with the timer of R29: the cell records, n, P_w and the validity. -/
def measureFace (x : FaceSample) (s : State) : State :=
  let cells := cellRecords s.cfb x
  let sorted := sortedCorrected cells
  let valid := decide (2 ≤ sorted.length)
  s.onFbu fun f =>
    { f with
      cells := cells
      count := sorted.length
      valid := valid
      pw := if valid then lowerMedian sorted else f.pw
      invalidTimer := invalidTimerAfter s valid }

/-! ## Stages 4 and 5: effective target, classification (R31 to R34) -/

/-- The effective target T_eff (R31). -/
def effectiveTarget (s : State) : Option Nat :=
  s.rru.active.map fun p => clampNat 0 1000 (p.plan.target + s.fbu.bias)

/-- The class of an error e: the first row of R33 whose condition holds. -/
def classOf (f : FaceSettings) (e : Int) : FaceClass :=
  if (f.highLimit : Int) < e then .high
  else if e < -(f.lowLimit : Int) then .low
  else if e < -(f.leapThreshold : Int) then .leap
  else if e < -(f.bandHalf : Int) then .under
  else if (f.bandHalf : Int) < e then .over
  else .inBand

/-- The class of an evaluation from the validity, P_w and T_eff (R33). -/
def faceClassNow (s : State) : FaceClass :=
  if s.fbu.valid then
    match s.fbu.pw, s.fbu.tEff with
    | some p, some t => classOf s.cfb.face ((p : Int) - (t : Int))
    | _, _ => .inBand
  else .invalid

/-- The FACE entry posted for a class (R34). -/
def faceEntry : FaceClass → Cap
  | .high => .rate 0
  | .invalid => .rate 0
  | _ => .noLimit

/-- The event of a class entered from another (R34). -/
def faceEvent (s : State) (before : Option FaceClass) (c : FaceClass) : Option EventBody :=
  if before = some c then none
  else match c with
    | .high => some (.faceHigh (s.fbu.pw.getD 0))
    | .low => some (.faceLow (s.fbu.pw.getD 0))
    | .invalid => some (.faceInvalid s.fbu.count)
    | _ => none

/-- Queue an event if there is one. -/
def queueIf (e : Option EventBody) (s : State) : State :=
  match e with
  | none => s
  | some b => queueEvent b s

/-- Count an entry into HIGH or LOW in the record, in BORING (R34). -/
def countFaceEntry (before : Option FaceClass) (c : FaceClass) (s : State) : State :=
  if s.abu.phase = .boring ∧ before ≠ some c then
    match c with
    | .high => postFacePart (fun p => { p with highCount := heldAdd 65535 p.highCount 1 }) s
    | .low => postFacePart (fun p => { p with lowCount := heldAdd 65535 p.lowCount 1 }) s
    | _ => s
  else s

/-- Stages 4 and 5 with the postings of R34. -/
def classifyFace (s : State) : State :=
  let before := s.fbu.faceClass
  let targeted := s.onFbu fun f => { f with tEff := effectiveTarget s }
  let c := faceClassNow targeted
  let classed := targeted.onFbu fun f => { f with faceClass := some c }
  countFaceEntry before c (queueIf (faceEvent classed before c) (postFace (faceEntry c) classed))

/-! ## Stage 6: the trim step (R35, R36) -/

/-- The trim step Δ of a class and a convergence mode (R35). -/
def trimStep (f : FaceSettings) (m : Convergence) (c : Option FaceClass) : Int :=
  let k : Int := if m = .fast then 4 else 1
  match c with
  | some .over | some .high => f.stepUp * k
  | some .under => -(f.stepDown * k)
  | some .leap => -f.leapDown
  | _ => 0

/-- The trim after a step, against the present command sum (R36). -/
def steppedTrim (f : FaceSettings) (base trim d : Int) : Int :=
  if 0 < d ∧ (f.screwMax : Int) ≤ base + trim then trim
  else if d < 0 ∧ base + trim ≤ (f.screwMin : Int) then trim
  else clampInt (-500) 500 (trim + d)

/-- Stage 6: in BORING with the screw in AUTO, step the trim (R35, R36). -/
def stepTrim (s : State) : State :=
  if s.abu.phase = .boring ∧ s.fbu.screwMode = .auto then
    s.onFbu fun f =>
      { f with
        trim := steppedTrim s.cfb.face (screwBase s.cfb.face f.v) f.trim
          (trimStep s.cfb.face f.convergence f.faceClass) }
  else s

/-! ## Hand-off to the ring record (R30, R128) -/

/-- The face part after a P_w posting (R128). -/
def takePw (p : Nat) (x : FacePart) : FacePart :=
  { x with
    pwMin := some (match x.pwMin with | none => p | some m => min m p)
    pwMax := some (match x.pwMax with | none => p | some m => max m p)
    pwSum := x.pwSum + p
    pwCount := heldAdd 4294967295 x.pwCount 1 }

/-- Post P_w to the OPEN record when the phase is BORING and the face VALID (R30). -/
def postPw (s : State) : State :=
  match s.abu.phase, s.fbu.valid, s.fbu.pw with
  | .boring, true, some p => postFacePart (takePw p) s
  | _, _, _ => s

/-- The FBU's part of a face evaluation: stages 1 to 7 and the posting of P_w (R25, R30). The hand-off to the ABU
follows it. -/
def evaluateFace (x : FaceSample) (s : State) : State :=
  postPw (formScrew (stepTrim (classifyFace (measureFace x s))))

end Sys2Proof.Machine
end

