-- ==== Sys2Proof/Machine/Muck.lean ====
section
/-! DEFINITION. The Muck Balance Unit's own operations: the belt, slices, their judging and the ring's muck part
(spec/06_muck_balance.md R105 to R115). -/

namespace Sys2Proof.Machine

/-- The greatest belt position, 2^48 − 1 (R103). -/
def beltTop : Nat := 281474976710655

/-- The greatest mass, 2^32 − 1 (R103, R104). -/
def massTop : Nat := 4294967295

/-- Whether two slice records are the same slice: ring number and index (R104). -/
def sameSlice (a b : Slice) : Bool := a.ring == b.ring && a.index == b.index

/-- Whether a slice is FINAL. -/
def isFinal (x : Slice) : Bool := x.state == .final

/-- The OPEN slice, when there is one (R104). -/
def openSliceOf (s : State) : Option Slice := s.mbu.slices.find? fun x => x.state == .opened

/-- Change a slice of the queue. -/
def onSlice (x : Slice) (f : Slice → Slice) (s : State) : State :=
  s.onMbu fun m => { m with slices := m.slices.map fun y => if y = x then f y else y }

/-! ## Theoretical mass and verdict (R110, R111) -/

/-- The theoretical mass of a length of advance (R110); A_face and the active plan are there whenever a slice is closed
(log 32). -/
def theoreticalMass (s : State) (length : Nat) : Nat :=
  match s.rru.active with
  | none => 0
  | some p =>
    (roundDiv ((s.cfb.aFace.getD 0 * length * p.plan.density : Nat) : Int) 1000000000).toNat +
      p.plan.additive * length / 1000

/-- The ratio of a slice: measured mass × 1000 / M_t, rounded down (R111). -/
def sliceRatio (x : Slice) : Nat := x.measured * 1000 / x.theoretical.getD 0

/-- The verdict on a slice: the first row of R111 that applies. -/
def judgeSlice (k : MuckSettings) (x : Slice) : Verdict :=
  if x.index < k.cropHead then .notJudged
  else if x.length * 2 < k.sliceLen then .notJudged
  else if 1000 + k.overTol < sliceRatio x then .over
  else if sliceRatio x < 1000 - k.underTol then .under
  else .ok

/-! ## Opening and closing slices (R107, R108) -/

/-- The record of a slice opened now (R107). -/
def newSlice (s : State) : Slice where
  ring := s.mbu.strokeRing.getD 0
  index := s.mbu.nextIndex
  advanceStart := s.mbu.strokeAdvance
  length := 0
  closePoint := some ((s.mbu.strokeAdvance / s.cfb.muck.sliceLen + 1) * s.cfb.muck.sliceLen)
  bStart := s.mbu.belt + s.cfb.muck.beltLag
  theoretical := none
  measured := 0
  state := .opened
  verdict := none

/-- The index after one is taken; beyond 255 it is free (R103; log 14). -/
def indexAfter (i : Nat) : Nat := if i < 255 then i + 1 else Config.indexOverflow i

/-- Append a new OPEN slice (R107). -/
def appendSlice (s : State) : State :=
  s.onMbu fun m => { m with slices := m.slices ++ [newSlice s], nextIndex := indexAfter m.nextIndex }

/-- A slice record closed at its present length: ARRIVING when its spoil has begun to arrive and mass has been credited
to it, TRAVELLING otherwise (R107; log 24). -/
def closedSlice (s : State) (x : Slice) : Slice :=
  { x with
    closePoint := none
    theoretical := some (theoreticalMass s x.length)
    state := if x.bStart ≤ s.mbu.belt ∧ 0 < x.measured then .arriving else .travelling }

/-- Close the OPEN slice, when there is one (R107). -/
def closeOpenSlice (s : State) : State :=
  s.onMbu fun m => { m with slices := m.slices.map fun x => if x.state = .opened then closedSlice s x else x }

/-- Make the opening: close the OPEN slice first when there is one, then open the new one (R107, R108). -/
def makeOpening (s : State) : State := appendSlice (closeOpenSlice s)

/-- The queue without its oldest FINAL slice (R108). -/
def retireOldest : List Slice → List Slice
  | [] => []
  | x :: xs => if isFinal x then xs else x :: retireOldest xs

/-- Retire the oldest FINAL slice (R108). -/
def retireSlice (s : State) : State := s.onMbu fun m => { m with slices := retireOldest m.slices }

/-- Whether an opening can be made, after a retirement if need be (R108). -/
def roomForSlice (s : State) : Bool := decide (s.mbu.slices.length < 32) || s.mbu.slices.any isFinal

/-- Make room for one slice (R108). -/
def makeRoom (s : State) : State := if s.mbu.slices.length < 32 then s else retireSlice s

/-- A slice must be opened: it is opened, or the opening waits (R107, R108). -/
def requestOpening (s : State) : State :=
  if roomForSlice s then makeOpening (makeRoom s)
  else postMuck (queueEvent .muckQueueFull (s.onMbu fun m => { m with openingPending := true }))

/-- Serve the waiting opening, when one waits and there is room (R108). -/
def serveOpening (s : State) : State :=
  if s.mbu.openingPending && roomForSlice s then
    postMuck ((makeOpening (makeRoom s)).onMbu fun m => { m with openingPending := false })
  else s

/-! ## A slice that becomes FINAL (R111, R112, R114) -/

/-- The muck part after the posting of a FINAL slice (R114, R128). -/
def takeSlice (x : Slice) (v : Verdict) (p : MuckPart) : MuckPart :=
  { slices := p.slices + 1
    measured := p.measured + x.measured
    theoretical := p.theoretical + x.theoretical.getD 0
    overs := if v = .over then p.overs + 1 else p.overs
    unders := if v = .under then p.unders + 1 else p.unders }

/-- The response to an OVER verdict (R112). -/
def overVerdict (x : Slice) (s : State) : State :=
  let stepped := s.onMbu fun m => { m with overRun := heldAdd 255 m.overRun 1, okRun := 0 }
  if s.mbu.overdig = .active then addBias s.cfb.muck.biasStep stepped
  else if s.cfb.muck.kOver ≤ stepped.mbu.overRun then
    let active := stepped.onMbu fun m => { m with overdig := .active }
    addBias s.cfb.muck.biasStep (postMuck (queueEventFor x.ring (.overdig x.index (sliceRatio x)) active))
  else stepped

/-- The response to an OK verdict (R112). -/
def okVerdict (x : Slice) (s : State) : State :=
  let stepped := s.onMbu fun m => { m with okRun := heldAdd 255 m.okRun 1, overRun := 0 }
  if s.mbu.overdig = .active ∧ s.cfb.muck.kOk ≤ stepped.mbu.okRun then
    postMuck (queueEventFor x.ring (.muckCleared stepped.mbu.okRun) (stepped.onMbu fun m => { m with overdig := .inactive }))
  else stepped

/-- The run counts and the response to a verdict (R112). -/
def stepRuns (x : Slice) (v : Verdict) (s : State) : State :=
  match v with
  | .over => overVerdict x s
  | .ok => okVerdict x s
  | .under =>
    queueEventFor x.ring (.underdig x.index (sliceRatio x)) (s.onMbu fun m => { m with overRun := 0, okRun := 0 })
  | .notJudged => s

/-- Whether a ring's stroke has ended (R114). -/
def strokeEnded (s : State) (ring : Nat) : Bool := s.mbu.strokeRing != some ring || !s.mbu.inProgress

/-- Write a ring's muck part when its stroke has ended and its slices in the queue are all FINAL (R114). -/
def writeMuckPart (ring : Nat) (s : State) : State :=
  if strokeEnded s ring && s.mbu.slices.all (fun x => x.ring != ring || isFinal x) then
    (makeFinal ring .muck false s).onMbu fun m => { m with slices := m.slices.filter fun x => x.ring != ring }
  else s

/-- Whether a slice can become FINAL: it is closed, and not FINAL already (R106). -/
def canBecomeFinal (x : Slice) : Bool := !isFinal x && !(x.state == .opened)

/-- A slice becomes FINAL: it is judged, posted and counted, its ring's part is written if it can be, and a waiting
opening is served (R106, R108, R111, R112, R114). -/
def finalizeSlice (x : Slice) (s : State) : State :=
  match s.mbu.slices.find? (fun y => sameSlice x y && canBecomeFinal y) with
  | none => s
  | some y =>
    let v := judgeSlice s.cfb.muck y
    let judged := onSlice y (fun z => { z with state := .final, verdict := some v }) s
    let posted := postMuckPart y.ring (takeSlice y v) judged
    serveOpening (writeMuckPart y.ring (stepRuns y v posted))

/-- Make slices FINAL in turn. -/
def finalizeAll (xs : List Slice) (s : State) : State := xs.foldl (fun t x => finalizeSlice x t) s

/-! ## The belt (R105, R106) -/

/-- Whether a slice may take the mass that arrives at belt position `b` (R106). -/
def candidateAt (b : Nat) (x : Slice) : Bool :=
  decide (x.bStart ≤ b) && (!(x.state == .opened) || decide (0 < x.length))

/-- The candidate: the newest slice that may take the mass (R106). -/
def candidate (s : State) : Option Slice := s.mbu.slices.reverse.find? (candidateAt s.mbu.belt)

/-- The slices older than a slice of the queue that are not FINAL, oldest first (R106). -/
def olderNotFinal (s : State) (x : Slice) : List Slice :=
  (s.mbu.slices.takeWhile fun y => !(y == x)).filter fun y => !isFinal y

/-- The measured mass after a credit; a sum above the stated range is free (R104; log 14). -/
def creditedMass (m d : Nat) : Nat := if m + d ≤ massTop then m + d else Config.massOverflow (m + d)

/-- Credit a sample's mass (R106). -/
def creditMass (kg : Nat) (s : State) : State :=
  match candidate s with
  | none => s.onMbu fun m => { m with unattributed := heldAdd massTop m.unattributed kg }
  | some x =>
    if isFinal x then s.onMbu fun m => { m with unattributed := heldAdd massTop m.unattributed kg }
    else
      finalizeAll (olderNotFinal s x)
        (onSlice x
          (fun y =>
            { y with
              measured := creditedMass y.measured kg
              state := if y.state = .opened then .opened else .arriving }) s)

/-- The last slice of the stroke that set a tail marker: of a stroke that has ended, none is OPEN (R106, R109). -/
def lastSliceOf (s : State) (t : TailMarker) : Option Slice :=
  s.mbu.slices.reverse.find? fun x => some x.ring == t.ring && !(x.state == .opened)

/-- The check of the tail marker (R106). -/
def checkTail (s : State) : State :=
  match s.mbu.tail with
  | none => s
  | some t =>
    if t.position ≤ s.mbu.belt then
      let ended := match lastSliceOf s t with
        | none => s
        | some x => finalizeSlice x s
      ended.onMbu fun m => { m with tail := none }
    else s

/-- The belt travel and the mass of a BELT sample, negative readings counted and taken as 0 (R105). -/
def takeReadings (travel mass : Int) (s : State) : State :=
  s.onMbu fun m =>
    { m with
      negativeTravel := if travel < 0 then heldAdd 65535 m.negativeTravel 1 else m.negativeTravel
      negativeMass := if mass < 0 then heldAdd 65535 m.negativeMass 1 else m.negativeMass
      belt := heldAdd beltTop m.belt travel.toNat }

/-- A BELT sample delivered to the MBU (R105). -/
def beltSample (travel mass : Int) (s : State) : State :=
  checkTail (creditMass mass.toNat (takeReadings travel mass s))

/-! ## The stroke (R107, R109) -/

/-- The MBU at START: the stroke's items and the first slice (R107). -/
def muckStart (ring : Nat) (s : State) : State :=
  requestOpening (s.onMbu fun m =>
    { m with strokeRing := some ring, strokeAdvance := 0, nextIndex := 0, inProgress := true })

/-- Whether the OPEN slice has reached its close point. -/
def closePointReached (s : State) : Bool :=
  match openSliceOf s with
  | none => false
  | some x => match x.closePoint with
    | none => false
    | some c => decide (c ≤ s.mbu.strokeAdvance)

/-- The stroke advance and the length of the OPEN slice after an increment (R107). -/
def growSlice (mm : Nat) (s : State) : State :=
  s.onMbu fun m =>
    { m with
      strokeAdvance := m.strokeAdvance + mm
      slices := m.slices.map fun x =>
        if x.state = .opened then { x with length := m.strokeAdvance + mm - x.advanceStart } else x }

/-- The MBU at an advance increment; while an opening waits, the OPEN slice goes on (R107, R108). -/
def muckAdvance (mm : Nat) (s : State) : State :=
  let grown := growSlice mm s
  if closePointReached grown && !grown.mbu.openingPending then requestOpening grown else grown

/-- Drop a waiting opening at stroke end (R109 step 1). -/
def dropOpening (s : State) : State :=
  if s.mbu.openingPending then postMuck (s.onMbu fun m => { m with openingPending := false }) else s

/-- Close the OPEN slice, or withdraw it when its length is 0 (R109 step 2). -/
def endOpenSlice (s : State) : State :=
  s.onMbu fun m =>
    { m with
      slices := (m.slices.filter fun x => !(x.state == .opened && x.length == 0)).map fun x =>
        if x.state = .opened then closedSlice s x else x }

/-- The MBU at entry into STROKE_END (R109). -/
def muckStrokeEnd (s : State) : State :=
  let marked := (endOpenSlice (dropOpening s)).onMbu fun m =>
    { m with tail := some { position := m.belt + s.cfb.muck.beltLag, ring := m.strokeRing }, inProgress := false }
  match marked.mbu.strokeRing with
  | none => marked
  | some r => writeMuckPart r marked

/-! ## RESTART (R115) -/

/-- RESTART of the MBU: the muck part of each ring with a slice in the queue made final with CUT, in ring-number order,
then the values of R115. -/
def restartMuck (s : State) : State :=
  let rings := sortByKey (fun n => n) (s.mbu.slices.map Slice.ring)
  (rings.foldl (fun t r => makeFinal r .muck true t) s).onMbu fun m =>
    { Mbu.reset with
      belt := m.belt
      unattributed := m.unattributed
      negativeTravel := m.negativeTravel
      negativeMass := m.negativeMass }

end Sys2Proof.Machine
end

