-- ==== Sys2Proof/Machine/Cycle.lean ====
section
/-! DEFINITION. The bore cycle: changes of phase, plan activation, stroke start and end, safe stop and resumption,
suspension and closure (spec/01_bore_cycle.md R3 to R22; spec/04_thrust_groups_and_ring_building.md R73 to R77). -/

namespace Sys2Proof.Machine

/-! ## Changes of phase -/

/-- The ABU sets the phase and recomputes the rate (R6, R7). -/
def setPhase (p : Phase) (s : State) : State := recomputeRate (s.onAbu fun a => { a with phase := p })

/-- What the FBU and the GRU do at every change of phase: form the screw command (R40), make the issue checks (R83,
R96). -/
def followPhase (s : State) : State := issueAll (formScrew s)

/-- A change of phase without further effects; a phase kept is no change. -/
def changePhase (p : Phase) (s : State) : State := if p = s.abu.phase then s else followPhase (setPhase p s)

/-! ## Plan activation (R3, R123) -/

/-- The RRU makes the head plan of the queue active, and the ABU sets the PLAN entry (R3, R123). -/
def activateHead (s : State) : State :=
  match s.rru.queue with
  | [] => s
  | p :: ps =>
    postPlan p.rate
      (s.onRru fun u => { u with queue := ps, active := some { plan := p, repeated := false }, exhausted := false })

/-- Activation in IDLE: with a plan waiting, it becomes active and the phase READY (R3, R123). -/
def activateInIdle (s : State) : State :=
  if s.abu.phase = .idle ∧ s.rru.queue ≠ [] then changePhase .ready (activateHead s) else s

/-- The phase of a commissioned device: READY with an active plan, else IDLE, then subject to R3 (R2, R22). -/
def enterCommissioned (s : State) : State :=
  if s.rru.active.isSome then changePhase .ready s else activateInIdle (changePhase .idle s)

/-! ## Stroke end (R12) -/

/-- The length achieved: the advance reference less the stroke start (R9). -/
def lengthAchieved (s : State) : Int := s.abu.advanceRef.getD s.abu.strokeStart - s.abu.strokeStart

/-- The FBU at entry into STROKE_END: the manual value 0, the command formed anew, the gate CLOSED (R12, R41). -/
def screwStrokeEnd (s : State) : State := orderGate .closed (formScrew (s.onFbu fun f => { f with manual := 0 }))

/-- Entry into STROKE_END (R12). -/
def enterStrokeEnd (s : State) : State :=
  let posted := postAdvance (fun p => { p with length := lengthAchieved s })
    (queueEvent (.strokeEnded (lengthAchieved s)) (setPhase .strokeEnd s))
  let rested := screwStrokeEnd (cutterStrokeEnd (orderGroups .hold (fun x => x.state == .pushing) posted))
  muckStrokeEnd (issueAll (strokeEndLines rested))

/-- The stroke ends when the advance reference has reached the stroke target (R10). -/
def checkTarget (s : State) : State :=
  match s.abu.advanceRef with
  | none => s
  | some r => if s.abu.phase = .boring ∧ s.abu.strokeTarget ≤ r then enterStrokeEnd s else s

/-! ## Safe stop (R16 to R18) -/

/-- The FBU at entry into HALTED (R40, R41). -/
def screwHalt (s : State) : State := s.onFbu fun f => { f with manual := 0, screwSent := 0, gateSent := .closed }

/-- Entry into HALTED (R16, R17). -/
def enterHalted (c : HaltCause) (s : State) : State :=
  let left := s.abu.phase
  let halted := recomputeRate (s.onAbu fun a =>
    { a with phase := .halted, resumePhase := some left, haltCause := some c, furtherCauses := 0, rateSent := 0 })
  let told := postAdvance (fun p => { p with safeStops := heldAdd 255 p.safeStops 1 })
    (queueEvent (.safeStop c left) halted)
  screwHalt (cutterHalt (placeSafeStop (safeStopSet told) (haltGroups told)))

/-- A safe-stop cause that arrives in HALTED (R18). -/
def furtherCause (c : HaltCause) (s : State) : State :=
  queueEvent (.safeStop c .halted) (s.onAbu fun a => { a with furtherCauses := heldAdd 255 a.furtherCauses 1 })

/-- The safe-stop items sent again at a SAFE STOP request in HALTED (R18, R138; log 30). -/
def resendSafeStop (s : State) : State := placeSafeStop (safeStopSet s) (haltGroups s)

/-- The SAFE STOP request (R16, R18). -/
def requestSafeStop (s : State) : State :=
  if s.abu.phase = .halted then resendSafeStop (furtherCause .request s) else enterHalted .request s

/-- The phases in which a NODE or FACE_INVALID cause leads to safe stop (R16). -/
def activePhase : Phase → Bool
  | .boring | .strokeEnd | .building | .buildSuspended => true
  | .unconfigured | .idle | .ready | .halted => false

/-- A NODE or FACE_INVALID cause (R16, R18, R29). -/
def causeArrives (c : HaltCause) (s : State) : State :=
  if s.abu.phase = .halted then furtherCause c s else if activePhase s.abu.phase then enterHalted c s else s

/-- The overtorque trip (R53). -/
def tripCutter (s : State) : State :=
  let tripped := s.onChm fun c => { c with state := .tripped, band := none, speedSent := 0 }
  let posted := postCutter (.rate 0) tripped
  if s.abu.phase = .halted then furtherCause .cutterTrip posted else enterHalted .cutterTrip posted

/-- The judgement of R53 and R52 on a sample in RUNNING. -/
def judgeRunning (x : CutterSample) (s : State) : State :=
  if s.cfb.cutter.torqueTrip ≤ x.torque then tripCutter s else judgeTorque x.torque s

/-- The transition check of the present cutter state (R47 step 3). -/
def checkCutter (x : CutterSample) (s : State) : State :=
  match s.chm.state with
  | .starting =>
    if cutterArrived x s then
      judgeRunning x (s.onChm fun c => { c with state := .running, startTimer := .stopped })
    else s
  | .running => if x.running then judgeRunning x s else cutterDropOut x.speed s
  | .stopping =>
    if x.running = false ∧ x.speed < 5 then postCutter (.rate 0) (s.onChm fun c => { c with state := .stopped }) else s
  | .stopped | .tripped => s

/-- A CUTTER sample delivered to the CHM (R47). -/
def cutterSample (x : CutterSample) (s : State) : State :=
  let stored := s.onChm fun c => { c with speed := some x.speed, torque := some x.torque, roll := some x.roll }
  checkCutter x (postTorque x.torque (judgeRoll x.roll stored))

/-! ## Closure (R76, R77, R124) -/

/-- Whether the ring closes: the key sector PLACED or ACCEPTED and all seven groups HOLDING (R76). -/
def closurePasses (s : State) : Bool :=
  match s.rru.active with
  | none => false
  | some p => seated (sectorOf s p.plan.keySector) && allGroups.all fun g => (groupOf s g).state == .holding

/-- The next plan at closure: the head of the queue, a repetition, or none (R124). -/
def nextPlan (s : State) : State :=
  match s.rru.queue, s.rru.active with
  | _ :: _, _ => activateHead s
  | [], none => s
  | [], some p =>
    if p.plan.ring < 65535 then
      let next : ActivePlan := { plan := { p.plan with ring := p.plan.ring + 1 }, repeated := true }
      postPlan next.plan.rate
        (queueEvent (.planRepeated next.plan.ring) (s.onRru fun u => { u with active := some next }))
    else postPlan 0 (queueEvent .planExhausted (s.onRru fun u => { u with active := none, exhausted := true }))

/-- The build part that the ABU posts at closure (R77). -/
def buildPartOf (s : State) : BuildPart := { sectors := s.abu.sectors, suspensions := s.abu.suspensions }

/-- The ring number of the OPEN record, when there is one. -/
def openRing (s : State) : Option Nat :=
  (s.rru.records.find? fun r => r.status == .opened).map fun r => r.plan.ring

/-- The record at closure: the build part, status CLOSED, RING_CLOSED, the bias, the BUILD flag (R76 steps 1 to 3,
R129). -/
def closeRecord (ring : Nat) (s : State) : State :=
  let posted := onOpenRecord (fun r => { r with build := buildPartOf s }) s
  let closed := queueEvent (.ringClosed ring) (onRecord ring (fun r => { r with status := .closed }) posted)
  let biased := onRecord ring (fun r => { r with face := { r.face with bias := some s.fbu.bias } }) closed
  makeFinal ring .build false biased

/-- The expected sector becomes absent; an item is placed only when that is a change (R63, R76 step 4; log 29). -/
def clearExpected (s : State) : State :=
  if s.abu.expected.isNone then s else placeItem (.nextSector none) (s.onAbu fun a => { a with expected := none })

/-- The ring is closed (R76). -/
def closeRing (s : State) : State :=
  let recorded := match openRing s with
    | none => s
    | some r => closeRecord r s
  let planned := nextPlan (clearExpected recorded)
  changePhase (if planned.rru.active.isSome then .ready else .idle) planned

/-- The closure check, in BUILDING (R76). -/
def checkClosure (s : State) : State := if s.abu.phase = .building ∧ closurePasses s then closeRing s else s

/-! ## Suspension and resumption of the build (R73 to R75) -/

/-- The build is suspended: the group orders, then the screw and the pumps (R73, R74; log 6). -/
def suspendBuild (s : State) : State :=
  let phased := setPhase .buildSuspended s
  let counted := (queueEvent (.buildSuspended (!s.fbu.valid)) phased).onAbu fun a =>
    { a with suspensions := heldAdd 255 a.suspensions 1 }
  followPhase (suspendGroups counted)

/-- The check of staying in BUILDING (R73). -/
def checkStay (s : State) : State := if s.abu.phase = .building ∧ staysBuilding s = false then suspendBuild s else s

/-- The check of leaving BUILD_SUSPENDED, with the closure check that follows (R75). -/
def checkLeave (s : State) : State :=
  if s.abu.phase = .buildSuspended ∧ resumesBuilding s then
    checkClosure (queueEvent (.buildResumed (s.fbu.pw.getD 0)) (changePhase .building s))
  else s

/-- What the ABU does with each face evaluation handed over (R30, R73, R75). -/
def buildEvaluation (s : State) : State := if s.abu.phase = .buildSuspended then checkLeave s else checkStay s

/-- A face evaluation whole (R25). -/
def faceSample (x : FaceSample) (s : State) : State := buildEvaluation (evaluateFace x s)

/-! ## THRUST samples (R9, R10, R59) -/

/-- One advance increment: to the GRU, the MBU and the ring record (R9). -/
def advanceIncrement (position : Int) (mm : Nat) (s : State) : State :=
  let moved := s.onAbu fun a => { a with advanceRef := some position }
  let accounted := muckAdvance mm (groutAdvance mm moved)
  checkTarget (postAdvance (fun p => { p with length := position - s.abu.strokeStart }) accounted)

/-- The reported position (R9). -/
def takePosition (position : Int) (s : State) : State :=
  match s.abu.advanceRef, s.abu.phase with
  | none, _ => s.onAbu fun a => { a with advanceRef := some position }
  | some r, .boring => if r < position then advanceIncrement position (position - r).toNat s else s
  | some _, _ => s.onAbu fun a => { a with advanceRef := some position }

/-- The checks that follow changes of group states in BUILDING (R59, R73, R76). -/
def checkAfterMoves (before : List GroupState) (s : State) : State :=
  if groupStates s = before then s else checkClosure (checkStay s)

/-- A THRUST sample delivered to the ABU (R9, R59). -/
def thrustSample (x : ThrustSample) (s : State) : State :=
  let handed := s.onFbu fun f => { f with v := clampNat 0 200 x.rate }
  let stored := storePositions x (takePosition x.position handed)
  checkAfterMoves (groupStates stored) (endMoves stored)

/-! ## Seat arrivals (R69 to R71) -/

/-- Why a seat arrival is rejected: the first check of R71 that fails. -/
def seatRejection (s : State) (sector : Nat) : Option SeatReason :=
  if s.abu.phase ≠ .building ∧ s.abu.phase ≠ .buildSuspended then some .phase
  else if s.abu.phase = .buildSuspended then some .suspended
  else if h : sector < 7 then
    if seated (sectorOf s ⟨sector, h⟩) then some .occupied
    else if s.abu.expected ≠ some ⟨sector, h⟩ then some .order
    else if (groupOf s ⟨sector, h⟩).state ≠ .retracted then some .notRetracted
    else none
  else some .order

/-- The sector's record and the group's lock after a seat is taken (R70). -/
def seatSector (k : Fin 7) (gap : Nat) (s : State) : State :=
  let reseats := if (sectorOf s k).state = .offset then heldAdd 255 (sectorOf s k).reseats 1 else (sectorOf s k).reseats
  if gap ≤ s.cfb.thrust.seatTol then
    onGroup k (fun g => { g with lock := true })
      (onSector k (fun _ => { state := .placed, gap := some gap, reseats := reseats }) s)
  else
    queueEvent (.seatOffset k gap) (onSector k (fun _ => { state := .offset, gap := some gap, reseats := reseats }) s)

/-- A seat arrival that passes R71 is taken (R70, R73). -/
def takeSeat (k : Fin 7) (gap : Nat) (s : State) : State :=
  checkStay (formExpected (orderGroup k .shove (seatSector k gap s)))

/-- A seat report delivered to the ABU (R69, R71). -/
def seatReport (sector gap : Nat) (s : State) : State :=
  match seatRejection s sector with
  | some r => queueEvent (.seatRejected sector r) s
  | none => if h : sector < 7 then takeSeat ⟨sector, h⟩ gap s else s

/-! ## START, ENTER BUILD and RESUME (R5, R13, R20) -/

/-- A ring record as START opens it (R127, R128). -/
def openedRecord (p : ActivePlan) : RingRecord where
  plan := p.plan
  repeated := p.repeated
  status := .opened
  buildFinal := false
  groutFinal := false
  groutCut := false
  muckFinal := false
  muckCut := false
  advance := { strokeStart := 0, length := 0, holds := 0, safeStops := 0 }
  face := { pwMin := none, pwMax := none, pwSum := 0, pwCount := 0, highCount := 0, lowCount := 0, bias := none }
  cutter := { maxTorque := none, direction := .cw }
  build := { sectors := Vector.replicate 7 Sector.reset, suspensions := 0 }
  grout := { lines := Vector.replicate 6 { ml := 0, strokes := 0 }, demandMl := 0, deficit := 0 }
  muck := { slices := 0, measured := 0, theoretical := 0, overs := 0, unders := 0 }

/-- Open the new ring's record, dropping the oldest when the table holds 16 (R5 step 2, R127). -/
def openRecord (p : ActivePlan) (s : State) : State :=
  s.onRru fun u =>
    { u with records := (if u.records.length < 16 then u.records else u.records.tail) ++ [openedRecord p] }

/-- The stroke start and target (R5 step 5). -/
def setStroke (s : State) : State :=
  let start := s.abu.advanceRef.getD 0
  postAdvance (fun p => { p with strokeStart := start })
    (s.onAbu fun a =>
      { a with strokeStart := start, strokeTarget := start + (s.cfb.geometry.ringWidth + s.cfb.geometry.clearance : Nat) })

/-- START taken under the active plan (R5, steps 1 to 9). -/
def startStroke (p : ActivePlan) (s : State) : State :=
  let opened := releaseLocks (openRecord p (changeGroutRing p.plan.ring s))
  let targeted := setStroke (postCabin .noLimit opened)
  let ordered := orderGroups .push (fun _ => true) (startCutter (setDirection targeted))
  let readied := muckStart p.plan.ring (startLines (orderGate .open ordered))
  followPhase (setPhase .boring readied)

/-- ENTER BUILD taken: the next-sector item, then the screw and the pumps (R13, R63; log 6). -/
def enterBuild (p : ActivePlan) (s : State) : State :=
  followPhase (startBuild p.plan.keySector (setPhase .building s))

/-- RESUME into BORING (R20). -/
def resumeBoring (s : State) : State :=
  let pushed := orderGroups .push (fun x => x.state == .holding) (postCabin (.rate 0) s)
  let readied := resumeLines (orderGate .open (startCutter pushed))
  checkTarget (followPhase (setPhase .boring readied))

/-- The new phase of a RESUME (R20). -/
def resumedPhase : Phase → Phase
  | .building => .buildSuspended
  | p => p

/-- The CHM at RESUME: TRIPPED becomes STOPPED when the halt cause is CUTTER_TRIP (R19, R55). -/
def releaseTrip (s : State) : State :=
  if s.abu.haltCause = some .cutterTrip then s.onChm fun c => { c with state := .stopped } else s

/-- RESUME taken (R20). -/
def resumeCycle (p : Phase) (s : State) : State :=
  let cleared := (releaseTrip s).onAbu fun a =>
    { a with haltCause := none, furtherCauses := 0, resumePhase := none }
  let told := queueEvent (.resumed (resumedPhase p)) cleared
  match resumedPhase p with
  | .boring => resumeBoring told
  | .idle => activateInIdle (changePhase .idle told)
  | q => changePhase q told

end Sys2Proof.Machine
end

