-- ==== Sys2Proof/Machine/Receiver.lean ====
section
/-! DEFINITION. The receivers of both links: the frame check and the byte-by-byte hunt (R142, R133), and the bytes of a
whole frame on each line (spec/09_cabin_link.md 9.7). -/

namespace Sys2Proof.Machine

/-- One bit of the CRC-16: polynomial x^16 + x^12 + x^5 + 1, no reflection (R142). -/
def crcBit (c : BitVec 16) : BitVec 16 := if c.msb then (c <<< 1) ^^^ 0x1021#16 else c <<< 1

/-- One byte of the CRC-16 (R142). -/
def crcByte (c : BitVec 16) (b : Byte) : BitVec 16 :=
  crcBit (crcBit (crcBit (crcBit (crcBit (crcBit (crcBit (crcBit (c ^^^ (b.setWidth 16 <<< 8)))))))))

/-- The CRC-16 of bytes: initial value 0xFFFF, no final exclusive-or (R142). -/
def crc16 (bytes : List Byte) : BitVec 16 := bytes.foldl crcByte 0xFFFF#16

/-- The two CRC bytes of a frame body, high byte first. -/
def crcBytes (body : List Byte) : List Byte := bigEndian 2 (crc16 body).toNat

/-- The bytes on the line of a frame whose body runs from the length byte to the end of the payload. -/
def framed (body : List Byte) : List Byte := (0x7E : Byte) :: (body ++ crcBytes body)

/-- The body of a Cabin Link frame: length, kind, tag, payload. -/
def cabinBody (f : CabinFrame) : List Byte :=
  BitVec.ofNat 8 f.payload.length :: f.kind :: f.tag :: f.payload

/-- The body of a Machine Line frame: length, kind, address, sequence number, payload. -/
def machineBody (f : MachineFrame) : List Byte :=
  BitVec.ofNat 8 f.payload.length :: f.kind :: f.address :: f.sequence :: f.payload

/-- What one byte brings about in a receiver. -/
inductive RxResult where
  | nothing
  | badLength
  | badCrc
  | whole (body : List Byte)
  deriving DecidableEq, Repr

/-- The receiver and the result after one byte. `header` is the number of bytes before the payload, the length byte
counted: 3 on the Cabin Link, 4 on the Machine Line (R142). -/
def rxByte (header : Nat) (r : Receiver) (b : Byte) : Receiver × RxResult :=
  match r with
  | .hunting => if b = 0x7E then (.gathering [], .nothing) else (.hunting, .nothing)
  | .gathering [] => if 248 < b.toNat then (.hunting, .badLength) else (.gathering [b], .nothing)
  | .gathering (n :: rest) =>
    let bytes := n :: rest ++ [b]
    if bytes.length < header + n.toNat + 2 then (.gathering bytes, .nothing)
    else
      let body := bytes.take (header + n.toNat)
      if crcBytes body = bytes.drop (header + n.toNat) then (.hunting, .whole body) else (.hunting, .badCrc)

/-- Whether a receiver stands inside a frame, where a gap discards the bytes gathered (R142). -/
def insideFrame : Receiver → Bool
  | .hunting => false
  | .gathering _ => true

/-- A count of the link or line errors, held at 65,535 (R132, R143). -/
def countUp (n : Nat) : Nat := heldAdd 65535 n 1

/-- The Cabin Link frame of a whole body. -/
def cabinFrameOf (body : List Byte) : CabinFrame :=
  { kind := body.getD 1 0, tag := body.getD 2 0, payload := body.drop 3 }

/-- The Machine Line frame of a whole body. -/
def machineFrameOf (body : List Byte) : MachineFrame :=
  { kind := body.getD 1 0, address := body.getD 2 0, sequence := body.getD 3 0, payload := body.drop 4 }

end Sys2Proof.Machine
end

