-- ==== Sys2Proof/Machine/Nodes.lean ====
section
/-! DEFINITION. The Machine Line Port: arrivals, node states, notices and delivery (R133 to R136), and the transmit
arbiter with the freeze (R139, R140). -/

namespace Sys2Proof.Machine

/-! ## Notices and deliveries (R136) -/

/-- The essential nodes (spec/00_scope.md section 5). -/
def essential : Role → Bool
  | .face | .cutter | .screw | .thrust => true
  | .erector | .belt | .grout _ => false

/-- The ABU at a change of an essential node to SILENT or FAULT (R16). -/
def essentialChanged (r : Role) (st : NodeState) (s : State) : State :=
  match st with
  | .silent | .fault => causeArrives (.node r) s
  | .live | .unseen => s

/-- The notice of a node's new state to the blocks that act on it (R136, R16, R89, R113). -/
def notifyNode (r : Role) (st : NodeState) (s : State) : State :=
  match r with
  | .face | .cutter | .screw | .thrust => essentialChanged r st s
  | .erector => s
  | .belt => postMuck s
  | .grout l => groutNodeChanged l st s

/-- The frame kinds of the Machine Line (9.7). -/
def sampleKind : Byte := 0x01
/-- The kind of a report (9.7). -/
def reportKind : Byte := 0x02
/-- The kind of a command frame (9.7). -/
def commandKind : Byte := 0x10

/-- A SCREW sample delivered to the FBU; an echo above 1000 is kept as it was sent (R42; log 42). -/
def screwSample (p : List Byte) (s : State) : State :=
  s.onFbu fun f => { f with echo := some (natAt p 0 2, gateOf (byteAt p 2)) }

/-- Deliver a sample to the block that owns the role (R136). -/
def deliverSample (r : Role) (p : List Byte) (s : State) : State :=
  match r with
  | .face => faceSample (readFaceSample p) s
  | .cutter => cutterSample (readCutterSample p) s
  | .screw => screwSample p s
  | .thrust => thrustSample (readThrustSample p) s
  | .erector => s
  | .belt => beltSample (intAt p 0 4) (intAt p 4 4) s
  | .grout l => groutSample l (natAt p 0 2) s

/-- Deliver a report: its first payload byte names its type, 0 a seat report and 1 a done report; a report that its
role's block has no rule for has no effect (9.7; log 12). -/
def deliverReport (r : Role) (p : List Byte) (s : State) : State :=
  match r with
  | .erector => if byteAt p 0 = 0 then seatReport (natAt p 1 1) (natAt p 2 2) s else s
  | .grout l => if byteAt p 0 = 1 then doneReport l (strokeKindOf (byteAt p 1)) (natAt p 2 4) (natAt p 6 2) s else s
  | .face | .cutter | .screw | .thrust | .belt => s

/-- Deliver a whole, accepted frame; a kind other than sample and report is delivered to no block (R136, 9.7). -/
def deliver (r : Role) (f : MachineFrame) (s : State) : State :=
  if f.kind = sampleKind then deliverSample r f.payload s
  else if f.kind = reportKind then deliverReport r f.payload s
  else s

/-! ## Fault flag and echo (R134; 8.1) -/

/-- Where the fault flag of a role's sample stands in its payload: the last field (8.1, R145; log 18). -/
def faultOffset : Role → Nat
  | .face => 15
  | .cutter => 10
  | .screw => 3
  | .thrust => 14
  | .erector => 1
  | .belt => 8
  | .grout _ => 4

/-- The value that a sample echoes, as the bytes of the echoed item's fields; none for FACE and BELT (8.1). -/
def echoOf (r : Role) (p : List Byte) : Option (List Byte) :=
  match r with
  | .face | .belt => none
  | .cutter => some [byteAt p 8, byteAt p 9]
  | .screw => some [byteAt p 0, byteAt p 1]
  | .thrust => some [byteAt p 13]
  | .erector => some [byteAt p 0]
  | .grout _ => some [byteAt p 2, byteAt p 3]

/-- The bytes of an item's value that its node echoes: the speed of a drive order, the order and kind of a pump order,
the whole value of the others (8.1; log 19). -/
def echoedBytes : Command → Option (List Byte)
  | .advanceRate r => some (encNat 1 r)
  | .driveOrder _ v _ => some (encNat 2 v)
  | .screwSpeed v => some (encNat 2 v)
  | .nextSector k => some (encOpt 1 (k.map Fin.val))
  | .pumpOrder _ (some (k, _)) => some (encNat 1 0 ++ encNat 1 (strokeKindCode k))
  | .pumpOrder _ none => some (encNat 1 1 ++ encNat 1 0)
  | .groupOrder _ _ _ => none
  | .screwGate _ => none

/-- Whether a sample's echo matches the last transmitted value of the item it echoes (R134). -/
def echoMatches (n : Node) (r : Role) (p : List Byte) : Bool :=
  match echoOf r p, n.lastTransmitted with
  | some e, some c => echoedBytes c == some e
  | _, _ => true

/-- The fault flag and the echo of a frame; a report counts as a sample with its fault flag clear and its echo matching
(R134). -/
def frameJudged (n : Node) (r : Role) (f : MachineFrame) : Bool × Bool :=
  if f.kind = sampleKind then (flagAt f.payload (faultOffset r), echoMatches n r f.payload) else (false, true)

/-! ## Node states (R134) -/

/-- The state, the echo mismatch run and the event after an accepted frame (R134). -/
def nodeAfter (r : Role) (n : Node) (fault matching : Bool) : NodeState × Nat × Option EventBody :=
  match n.state with
  | .unseen => if fault then (.fault, 0, some (.nodeFault r false)) else (.live, 0, none)
  | .silent => if fault then (.fault, 0, some (.nodeFault r false)) else (.live, 0, some (.nodeBack r .silent))
  | .live =>
    if fault then (.fault, 0, some (.nodeFault r false))
    else if matching then (.live, 0, none)
    else if n.mismatchRun + 1 < 3 then (.live, n.mismatchRun + 1, none)
    else (.fault, 0, some (.nodeFault r true))
  | .fault => if !fault && matching then (.live, 0, some (.nodeBack r .fault)) else (.fault, 0, none)

/-- Settle the state of an accepted frame's node, and give notice of a change (R134, R136). -/
def settleNode (r : Role) (f : MachineFrame) (s : State) : State :=
  let n := nodeOf s r
  let judged := frameJudged n r f
  let after := nodeAfter r n judged.1 judged.2
  let set := queueIf after.2.2 (onNode r (fun x => { x with state := after.1, mismatchRun := after.2.1 }) s)
  if after.1 = n.state then set else notifyNode r after.1 set

/-! ## Arrivals (R133) -/

/-- The role a frame is taken for: the first, in role order, whose address is the frame's source address; an address of 0
matches no frame (R133). -/
def roleOfAddress (s : State) (address : Byte) : Option Role :=
  if address = 0 then none else allRoles.find? fun r => addressOf s r == address.toNat

/-- The greatest count of frames, 2^32 − 1 (R132). -/
def frameTop : Nat := 4294967295

/-- A node's entry after it accepts a frame: sequence, counts, arrival, silence timer (R133). -/
def acceptedNode (s : State) (r : Role) (seq : Byte) (n : Node) : Node :=
  let skipped := match n.lastSequence with
    | none => 0
    | some l => if (n.state = .live ∨ n.state = .fault) ∧ 1 < (seq - l).toNat then (seq - l).toNat - 1 else 0
  { n with
    lastSequence := some seq
    received := heldAdd frameTop n.received 1
    missed := heldAdd frameTop n.missed skipped
    lastArrival := some s.ms
    silenceTimer := startedTimer s (timeoutOf s r) }

/-- A whole Machine Line frame is judged against the node table, accepted, and delivered (R133, R134, R136). -/
def machineFrame (f : MachineFrame) (s : State) : State :=
  match roleOfAddress s f.address with
  | none => s.onMlp fun m => { m with unknownCount := countUp m.unknownCount }
  | some r =>
    if (nodeOf s r).lastSequence = some f.sequence then
      s.onMlp fun m => { m with repeatedCount := countUp m.repeatedCount }
    else deliver r f (settleNode r f (onNode r (acceptedNode s r f.sequence) s))

/-- One byte taken off the Machine Line (R133). -/
def machineByte (b : Byte) (s : State) : State :=
  let rx := rxByte 4 s.mlp.receiver b
  let received := s.onMlp fun m => { m with receiver := rx.1 }
  match rx.2 with
  | .nothing => received
  | .badLength => received.onMlp fun m => { m with lenCount := countUp m.lenCount }
  | .badCrc => received.onMlp fun m => { m with crcCount := countUp m.crcCount }
  | .whole body => machineFrame (machineFrameOf body) received

/-- Bytes that arrive on the Machine Line without a gap. -/
def machineBytes (bytes : List Byte) (s : State) : State := bytes.foldl (fun t b => machineByte b t) s

/-- A gap on the Machine Line (R133, R142). -/
def machineGap (s : State) : State :=
  if insideFrame s.mlp.receiver then
    s.onMlp fun m => { m with receiver := .hunting, gapCount := countUp m.gapCount }
  else s

/-- Expiry of a node's silence timer (R135). -/
def silenceExpires (r : Role) (s : State) : State :=
  if isRunning (nodeOf s r).silenceTimer then
    let silent := onNode r (fun n => { n with state := .silent, mismatchRun := 0, silenceTimer := .expired }) s
    let told := queueEvent (.nodeSilent r) silent
    if (nodeOf s r).state = .silent then told else notifyNode r .silent told
  else s

/-! ## Transmission (R139, R140) -/

/-- The item that the arbiter chooses, with the queue it leaves: the head, or under a freeze the oldest item with the
safety mark (R139). -/
def chooseItem (frozen : Bool) : List Item → Option (Item × List Item)
  | [] => none
  | i :: q =>
    if !frozen || i.safety then some (i, q)
    else match chooseItem frozen q with
      | none => none
      | some (j, rest) => some (j, i :: rest)

/-- The notice of transmission for a group order item and a pump order item (R60, R84, R139). -/
def giveNotice (c : Command) (s : State) : State :=
  match c with
  | .groupOrder g _ _ => onGroup g (fun x => { x with orderQueued := false }) s
  | .pumpOrder l (some _) =>
    onLine l
      (fun x =>
        { x with
          stroke := x.stroke.map fun k => { k with sent := true }
          strokeTimer := if x.stroke.isSome then startedTimer s s.cfb.grout.strokeMaxMs else x.strokeTimer }) s
  | _ => s

/-- The node's entry after an echoed item is sent to it (R132, R139). -/
def transmittedNode (c : Command) (n : Node) : Node :=
  if (echoedBytes c).isSome then { n with lastTransmitted := some c } else n

/-- Begin the command frame of an item, or none when the address is 0 (R139, 9.7). -/
def sendItem (c : Command) (s : State) : State :=
  let r := roleOfKey (keyOf c)
  let address := addressOf s r
  if address = 0 then s
  else
    (onNode r (transmittedNode c) s).onMlp fun m =>
      { m with
        tx := some
          { kind := commandKind, address := BitVec.ofNat 8 address, sequence := m.sequences[roleIndex r]
            payload := commandPayload c }
        sequences := updateAt m.sequences (roleIndex r) fun n => n + 1 }

/-- An item leaves the queue and is sent, and its notice is given (R139). -/
def transmitItem (i : Item) (rest : List Item) (s : State) : State :=
  giveNotice i.command (sendItem i.command (s.onMlp fun m => { m with queue := rest }))

/-- The transmit arbiter: while the transmitter is free it takes the next item; an item without an address leaves it
free (R139; log 7). -/
def arbitrateMachine : Nat → State → State
  | 0, s => s
  | n + 1, s =>
    if s.mlp.tx.isSome then s
    else match chooseItem s.mlp.frozen s.mlp.queue with
      | none => s
      | some (i, rest) => arbitrateMachine n (transmitItem i rest s)

/-- FREEZE (R140). -/
def freezeItems (s : State) : State := s.onMlp fun m => { m with frozen := true, freezeTimer := startedTimer s 10000 }

/-- UNFREEZE (R140). -/
def unfreezeItems (s : State) : State :=
  if s.mlp.frozen then s.onMlp fun m => { m with frozen := false, freezeTimer := .stopped } else s

/-- Expiry of the freeze timer (R140). -/
def freezeExpires (s : State) : State :=
  if isRunning s.mlp.freezeTimer then
    queueEvent (.freezeEnded false) (s.onMlp fun m => { m with frozen := false, freezeTimer := .stopped })
  else s

/-- RESTART of the MLP: every node entry as at power-on, the queue emptied, the freeze cleared; the line counts, the
command frame counts and the frame on the line are kept (R22, R132, R140, 9.7). -/
def restartMlp (s : State) : State :=
  s.onMlp fun m =>
    { m with nodes := Vector.replicate 12 Node.reset, queue := [], frozen := false, freezeTimer := .stopped }

end Sys2Proof.Machine
end

