-- ==== Sys2Proof/Machine/Settings.lean ====
section
/-! DEFINITION. The Configuration Block: the items of the setting table, SET, GET and COMMISSION
(spec/10_settings_and_commissioning.md R154 to R159, with R45, R57, R98 and R102). -/

namespace Sys2Proof.Machine

/-- The items of the setting table (10.1; tables 10.2, 4.8, 2.7, 3.7, 5.11, 6.11). base_shares, the one item of six
values, is apart. -/
inductive SettingItem where
  | dc | ds | ringWidth | clearance | cellHeight (cell : Fin 5) | cellMask | aFace | vVoid
  | address (role : Role) | timeout (role : Role)
  | holdMargin | groupForce | maxRetracted | seatTol
  | gamma | faceInvalidMs | biasMax | highLimit | lowLimit | leapThreshold | bandHalf | stepUp | stepDown | leapDown
  | kFf | screwMin | screwMax
  | rollMin | rollAlarm | torqueDerate | torqueTrip | startMs
  | strokeMl | strokeMaxMs | pMax | pResume | pBurst | flushStrokes | freePeriod | lagWarn | lagStop | baseShares
  | sliceLen | beltLag | cropHead | overTol | underTol | kOver | kOk | biasStep
  | cabinSilence | statusPeriod
  deriving DecidableEq, Repr

/-- The items of a group, in item order (10.1). -/
def groupItems : Nat → List SettingItem
  | 0 =>
    [.dc, .ds, .ringWidth, .clearance, .cellHeight 0, .cellHeight 1, .cellHeight 2, .cellHeight 3, .cellHeight 4,
     .cellMask, .aFace, .vVoid]
  | 1 => allRoles.map .address ++ allRoles.map .timeout
  | 2 => [.holdMargin, .groupForce, .maxRetracted, .seatTol]
  | 3 =>
    [.gamma, .faceInvalidMs, .biasMax, .highLimit, .lowLimit, .leapThreshold, .bandHalf, .stepUp, .stepDown, .leapDown,
     .kFf, .screwMin, .screwMax]
  | 4 => [.rollMin, .rollAlarm, .torqueDerate, .torqueTrip, .startMs]
  | 5 =>
    [.strokeMl, .strokeMaxMs, .pMax, .pResume, .pBurst, .flushStrokes, .freePeriod, .lagWarn, .lagStop, .baseShares]
  | 6 => [.sliceLen, .beltLag, .cropHead, .overTol, .underTol, .kOver, .kOk, .biasStep]
  | 7 => [.cabinSilence, .statusPeriod]
  | _ => []

/-- The item of a group number and an item number (10.1). -/
def settingItem (group item : Nat) : Option SettingItem := (groupItems group)[item]?

/-- Whether an item is read only (10.2). -/
def readOnly : SettingItem → Bool
  | .aFace | .vVoid => true
  | _ => false

/-- The phases in which a group's writes are taken (10.1). -/
def writesTaken (group : Nat) (p : Phase) : Bool :=
  if group ≤ 1 then p == .unconfigured || p == .idle
  else if group = 2 then !(p == .building || p == .buildSuspended)
  else true

/-- The stored value of an item of one value (R157); a_face and v_void may be absent, and base_shares has none. -/
def getSetting (c : Cfb) : SettingItem → Option Int
  | .dc => some c.geometry.dc
  | .ds => some c.geometry.ds
  | .ringWidth => some c.geometry.ringWidth
  | .clearance => some c.geometry.clearance
  | .cellHeight i => some c.geometry.cellHeight[i]
  | .cellMask => some c.geometry.cellMask
  | .aFace => c.aFace.map Int.ofNat
  | .vVoid => c.vVoid.map Int.ofNat
  | .address r => some c.node.address[roleIndex r]
  | .timeout r => some c.node.timeout[roleIndex r]
  | .holdMargin => some c.thrust.holdMargin
  | .groupForce => some c.thrust.groupForce
  | .maxRetracted => some c.thrust.maxRetracted
  | .seatTol => some c.thrust.seatTol
  | .gamma => some c.face.gamma
  | .faceInvalidMs => some c.face.faceInvalidMs
  | .biasMax => some c.face.biasMax
  | .highLimit => some c.face.highLimit
  | .lowLimit => some c.face.lowLimit
  | .leapThreshold => some c.face.leapThreshold
  | .bandHalf => some c.face.bandHalf
  | .stepUp => some c.face.stepUp
  | .stepDown => some c.face.stepDown
  | .leapDown => some c.face.leapDown
  | .kFf => some c.face.kFf
  | .screwMin => some c.face.screwMin
  | .screwMax => some c.face.screwMax
  | .rollMin => some c.cutter.rollMin
  | .rollAlarm => some c.cutter.rollAlarm
  | .torqueDerate => some c.cutter.torqueDerate
  | .torqueTrip => some c.cutter.torqueTrip
  | .startMs => some c.cutter.startMs
  | .strokeMl => some c.grout.strokeMl
  | .strokeMaxMs => some c.grout.strokeMaxMs
  | .pMax => some c.grout.pMax
  | .pResume => some c.grout.pResume
  | .pBurst => some c.grout.pBurst
  | .flushStrokes => some c.grout.flushStrokes
  | .freePeriod => some c.grout.freePeriod
  | .lagWarn => some c.grout.lagWarn
  | .lagStop => some c.grout.lagStop
  | .baseShares => none
  | .sliceLen => some c.muck.sliceLen
  | .beltLag => some c.muck.beltLag
  | .cropHead => some c.muck.cropHead
  | .overTol => some c.muck.overTol
  | .underTol => some c.muck.underTol
  | .kOver => some c.muck.kOver
  | .kOk => some c.muck.kOk
  | .biasStep => some c.muck.biasStep
  | .cabinSilence => some c.link.cabinSilence
  | .statusPeriod => some c.link.statusPeriod

/-- The least and the greatest value of an item's range (settings tables; for dc, ds and the addresses the least value
beside 0: log 25). -/
def settingRange : SettingItem → Int × Int
  | .dc => (3000, 12000)
  | .ds => (2400, 11999)
  | .ringWidth => (600, 2500)
  | .clearance => (50, 400)
  | .cellHeight _ => (-4000, 4000)
  | .cellMask => (0, 31)
  | .aFace => (0, 0)
  | .vVoid => (0, 0)
  | .address _ => (1, 30)
  | .timeout _ => (100, 10000)
  | .holdMargin => (1000, 3000)
  | .groupForce => (500, 20000)
  | .maxRetracted => (1, 3)
  | .seatTol => (0, 200)
  | .gamma => (0, 25)
  | .faceInvalidMs => (2000, 30000)
  | .biasMax => (0, 200)
  | .highLimit => (5, 500)
  | .lowLimit => (5, 500)
  | .leapThreshold => (0, 500)
  | .bandHalf => (0, 200)
  | .stepUp => (0, 100)
  | .stepDown => (0, 100)
  | .leapDown => (0, 500)
  | .kFf => (0, 25000)
  | .screwMin => (0, 1000)
  | .screwMax => (0, 1000)
  | .rollMin => (0, 500)
  | .rollAlarm => (10, 1000)
  | .torqueDerate => (300, 1400)
  | .torqueTrip => (400, 1500)
  | .startMs => (5000, 60000)
  | .strokeMl => (1000, 20000)
  | .strokeMaxMs => (5000, 60000)
  | .pMax => (60, 950)
  | .pResume => (50, 900)
  | .pBurst => (100, 1000)
  | .flushStrokes => (1, 20)
  | .freePeriod => (5000, 600000)
  | .lagWarn => (10000, 2000000)
  | .lagStop => (20000, 3000000)
  | .baseShares => (0, 1000)
  | .sliceLen => (50, 500)
  | .beltLag => (0, 500000)
  | .cropHead => (0, 10)
  | .overTol => (0, 500)
  | .underTol => (0, 500)
  | .kOver => (1, 10)
  | .kOk => (1, 20)
  | .biasStep => (0, 50)
  | .cabinSilence => (500, 10000)
  | .statusPeriod => (0, 1000)

/-! ## Clamping at the write (R155, R45, R57, R102) -/

/-- A value clamped to an item's range (R155). -/
def inRange (i : SettingItem) (v : Int) : Int := clampInt (settingRange i).1 (settingRange i).2 v

/-- The least listed status period at or above a value, 0 for 0 or a negative value, 1,000 above 1,000 (R155). -/
def listedPeriod (v : Int) : Int :=
  if v ≤ 0 then 0
  else if v ≤ 50 then 50
  else if v ≤ 100 then 100
  else if v ≤ 200 then 200
  else if v ≤ 500 then 500
  else 1000

/-- The value that a write of one item stores (R155, R45, R57, R102). -/
def storedValue (c : Cfb) (i : SettingItem) (v : Int) : Int :=
  match i with
  | .dc => if v = 0 then 0 else inRange .dc v
  | .ds => if v = 0 then 0 else inRange .ds v
  | .address r => if v = 0 then 0 else inRange (.address r) v
  | .ringWidth => inRange .ringWidth v / 50 * 50
  | .clearance => inRange .clearance v / 50 * 50
  | .statusPeriod => listedPeriod v
  | .leapThreshold => min (inRange .leapThreshold v) c.face.lowLimit
  | .screwMin => min (inRange .screwMin v) c.face.screwMax
  | .screwMax => max (inRange .screwMax v) c.face.screwMin
  | .torqueDerate => min (inRange .torqueDerate v) (c.cutter.torqueTrip - 1)
  | .torqueTrip => max (inRange .torqueTrip v) (c.cutter.torqueDerate + 1)
  | .pResume => min (inRange .pResume v) (c.grout.pMax - 1)
  | .pMax => min (max (inRange .pMax v) (c.grout.pResume + 1)) (c.grout.pBurst - 1)
  | .pBurst => max (inRange .pBurst v) (c.grout.pMax + 1)
  | .lagWarn => min (inRange .lagWarn v) (c.grout.lagStop - 1)
  | .lagStop => max (inRange .lagStop v) (c.grout.lagWarn + 1)
  | i => inRange i v

/-- The setting table after an item of one value is stored. -/
def putSetting (c : Cfb) (i : SettingItem) (v : Int) : Cfb :=
  let n := v.toNat
  match i with
  | .dc => { c with geometry := { c.geometry with dc := n } }
  | .ds => { c with geometry := { c.geometry with ds := n } }
  | .ringWidth => { c with geometry := { c.geometry with ringWidth := n } }
  | .clearance => { c with geometry := { c.geometry with clearance := n } }
  | .cellHeight k => { c with geometry := { c.geometry with cellHeight := c.geometry.cellHeight.set k v } }
  | .cellMask => { c with geometry := { c.geometry with cellMask := n } }
  | .aFace | .vVoid | .baseShares => c
  | .address r => { c with node := { c.node with address := c.node.address.set (roleIndex r) n } }
  | .timeout r => { c with node := { c.node with timeout := c.node.timeout.set (roleIndex r) n } }
  | .holdMargin => { c with thrust := { c.thrust with holdMargin := n } }
  | .groupForce => { c with thrust := { c.thrust with groupForce := n } }
  | .maxRetracted => { c with thrust := { c.thrust with maxRetracted := n } }
  | .seatTol => { c with thrust := { c.thrust with seatTol := n } }
  | .gamma => { c with face := { c.face with gamma := n } }
  | .faceInvalidMs => { c with face := { c.face with faceInvalidMs := n } }
  | .biasMax => { c with face := { c.face with biasMax := n } }
  | .highLimit => { c with face := { c.face with highLimit := n } }
  | .lowLimit => { c with face := { c.face with lowLimit := n } }
  | .leapThreshold => { c with face := { c.face with leapThreshold := n } }
  | .bandHalf => { c with face := { c.face with bandHalf := n } }
  | .stepUp => { c with face := { c.face with stepUp := n } }
  | .stepDown => { c with face := { c.face with stepDown := n } }
  | .leapDown => { c with face := { c.face with leapDown := n } }
  | .kFf => { c with face := { c.face with kFf := n } }
  | .screwMin => { c with face := { c.face with screwMin := n } }
  | .screwMax => { c with face := { c.face with screwMax := n } }
  | .rollMin => { c with cutter := { c.cutter with rollMin := n } }
  | .rollAlarm => { c with cutter := { c.cutter with rollAlarm := n } }
  | .torqueDerate => { c with cutter := { c.cutter with torqueDerate := n } }
  | .torqueTrip => { c with cutter := { c.cutter with torqueTrip := n } }
  | .startMs => { c with cutter := { c.cutter with startMs := n } }
  | .strokeMl => { c with grout := { c.grout with strokeMl := n } }
  | .strokeMaxMs => { c with grout := { c.grout with strokeMaxMs := n } }
  | .pMax => { c with grout := { c.grout with pMax := n } }
  | .pResume => { c with grout := { c.grout with pResume := n } }
  | .pBurst => { c with grout := { c.grout with pBurst := n } }
  | .flushStrokes => { c with grout := { c.grout with flushStrokes := n } }
  | .freePeriod => { c with grout := { c.grout with freePeriod := n } }
  | .lagWarn => { c with grout := { c.grout with lagWarn := n } }
  | .lagStop => { c with grout := { c.grout with lagStop := n } }
  | .sliceLen => { c with muck := { c.muck with sliceLen := n } }
  | .beltLag => { c with muck := { c.muck with beltLag := n } }
  | .cropHead => { c with muck := { c.muck with cropHead := n } }
  | .overTol => { c with muck := { c.muck with overTol := n } }
  | .underTol => { c with muck := { c.muck with underTol := n } }
  | .kOver => { c with muck := { c.muck with kOver := n } }
  | .kOk => { c with muck := { c.muck with kOk := n } }
  | .biasStep => { c with muck := { c.muck with biasStep := n } }
  | .cabinSilence => { c with link := { c.link with cabinSilence := n } }
  | .statusPeriod => { c with link := { c.link with statusPeriod := n } }

/-! ## base_shares (R98) -/

/-- The shares with the shortfall of their sum below 1000 added one permille at a time to lines 0, 1, 2 and onward
(R98). -/
def fillShares (xs : Vector Nat 6) : Vector Nat 6 :=
  mapTable (fun l x => if l.val < 1000 - xs.toList.sum then x + 1 else x) xs

/-- The base shares that a write stores (R98). -/
def storedShares (written : Vector Nat 6) : Vector Nat 6 :=
  let clamped := mapTable (fun _ v => clampNat 0 1000 v) written
  let total := clamped.toList.sum
  if total = 1000 then clamped
  else if total = 0 then Cfb.reset.grout.baseShares
  else fillShares (mapTable (fun _ v => v * 1000 / total) clamped)

/-- Store base_shares: the effective shares are recomputed at the write, and the issue check of each line whose record
this changes follows (R98, R83; log 41). -/
def writeShares (xs : Vector Nat 6) (s : State) : State :=
  issueChanged s (recomputeShares (s.onCfb fun c => { c with grout := { c.grout with baseShares := xs } }))

/-! ## Effects of a write (R155, R156, R32, R82, R152) -/

/-- A GEOMETRY or NODE write taken in IDLE returns the phase to UNCONFIGURED (R156). -/
def returnToUnconfigured (group : Nat) (s : State) : State :=
  if group ≤ 1 ∧ s.abu.phase = .idle then changePhase .unconfigured s else s

/-- The reset of a role's node entry at a change of its address (R156). -/
def readdressNode (r : Role) (s : State) : State :=
  onNode r
    (fun n =>
      { n with
        state := .unseen, lastSequence := none, lastArrival := none, mismatchRun := 0, silenceTimer := .stopped }) s

/-- The pacing timer and the due mark at a write of status_period (R152). -/
def writePeriod (before after : Nat) (s : State) : State :=
  if after = 0 then s.onClp fun c => { c with pacingTimer := .stopped, due := false }
  else if before = 0 then s.onClp fun c => { c with pacingTimer := startedTimer s after }
  else s

/-- What a write of one item does beside storing its value: the lowering of the bias (R32), the clamp of the
accumulators with the issue check of each line that it changes (R82, R83; log 41), the node entry (R156), the pacing
timer (R152). `b` is the setting table before the write. -/
def writeEffect (b : Cfb) (i : SettingItem) (s : State) : State :=
  match i with
  | .biasMax => s.onFbu fun f => { f with bias := min f.bias s.cfb.face.biasMax }
  | .strokeMl => issueChanged s (clampAccumulators s)
  | .address r => if b.node.address[roleIndex r] = addressOf s r then s else readdressNode r s
  | .statusPeriod => writePeriod b.link.statusPeriod s.cfb.link.statusPeriod s
  | _ => s

/-- A write of one item of one value, as stored (R155, R156). -/
def writeSetting (group : Nat) (i : SettingItem) (v : Int) (s : State) : State :=
  returnToUnconfigured group (writeEffect s.cfb i (s.onCfb fun c => putSetting c i v))

/-! ## COMMISSION (R158, R159) -/

/-- The first role with address 0 (R158 check 3). -/
def unsetAddress (s : State) : Option Role := allRoles.find? fun r => addressOf s r == 0

/-- The second role of the first pair that holds one address (R158 check 4). -/
def duplicateIn (addressOf : Role → Nat) : List Role → Option Role
  | [] => none
  | r :: rs => match rs.find? fun q => addressOf q == addressOf r with
    | some q => some q
    | none => duplicateIn addressOf rs

/-- The first check of R158 that fails: its reason byte, and the role it names. -/
def commissionFailure (s : State) : Option (Nat × Option Role) :=
  let g := s.cfb.geometry
  if g.dc = 0 then some (15, none)
  else if g.ds = 0 ∨ g.dc ≤ g.ds ∨ 600 < g.dc - g.ds then some (16, none)
  else match unsetAddress s with
    | some r => some (17, some r)
    | none => match duplicateIn (addressOf s) allRoles with
      | some r => some (18, some r)
      | none => none

/-- A_face = round(Dc² × 0.785398163) (R159). -/
def faceArea (g : GeometrySettings) : Nat := (roundDiv ((g.dc * g.dc * 785398163 : Nat) : Int) 1000000000).toNat

/-- V_void = round((Dc² − Ds²) × 0.785398163 / 1000) (R159). -/
def voidRate (g : GeometrySettings) : Nat :=
  (roundDiv (((g.dc * g.dc - g.ds * g.ds) * 785398163 : Nat) : Int) 1000000000000).toNat

/-- A COMMISSION that passes: the derived values, then the phase (R159, R2). -/
def commission (s : State) : State :=
  enterCommissioned (s.onCfb fun c => { c with aFace := some (faceArea c.geometry), vVoid := some (voidRate c.geometry) })

end Sys2Proof.Machine
end

