-- ==== Sys2Proof/Machine/Status.lean ====
section
/-! DEFINITION. The status record: its header, its seven sections and their change flags (R151, R147, with R1, R23, R46,
R58, R63 to R65, R80, R81, R103, R119, R126 and R132). -/

namespace Sys2Proof.Machine

/-- One item of a section: its bytes, and whether a change of it sets the section's flag. -/
structure StatusItem where
  bytes : List Byte
  flags : Bool
  deriving DecidableEq, Repr

/-- An item whose change sets the flag. -/
def loud (bytes : List Byte) : StatusItem := { bytes := bytes, flags := true }

/-- An item that goes with its section and sets no flag. -/
def quiet (bytes : List Byte) : StatusItem := { bytes := bytes, flags := false }

/-- An enumerated field that may be absent. -/
def encCode {α : Type} (code : α → Nat) (v : Option α) : List Byte := encOpt 1 (v.map code)

/-- The fields of a ring plan, in the order of R118. -/
def encPlan (p : Plan) : List Byte :=
  encNat 2 p.ring ++ encNat 1 p.keySector.val ++ encNat 1 p.rate ++ encNat 2 p.target ++ encNat 2 p.cutterSpeed ++
    encNat 1 (planDirectionCode p.direction) ++ encNat 2 p.fill ++ encNat 2 p.density ++ encNat 2 p.additive ++
    (match p.lineModes with
      | none => encNat 1 0
      | some m => encNat 1 6 ++ m.toList.flatMap fun x => encNat 1 (lineModeCode x)) ++
    encNat 1 p.trims.length ++ p.trims.flatMap (encInt 2)

/-- A slice record, in the order of R104 (widths of the unstated ranges: log 17). -/
def encSlice (x : Slice) : List Byte :=
  encNat 2 x.ring ++ encNat 1 x.index ++ encNat 4 x.advanceStart ++ encNat 4 x.length ++ encOpt 4 x.closePoint ++
    encNat 6 x.bStart ++ encOpt 4 x.theoretical ++ encNat 4 x.measured ++ encNat 1 (sliceStateCode x.state) ++
    encCode verdictCode x.verdict

/-- The width of a slice record. -/
def sliceWidth : Nat := 31

/-- A stroke record, in the order of R81; all ones when there is none. -/
def encStroke : Option Stroke → List Byte
  | none => allOnes 10
  | some k =>
    encNat 1 (strokeKindCode k.kind) ++ encNat 2 k.volume ++ encOpt 2 k.ring ++ encStamp k.issued ++ encFlag k.sent

/-- A stroke record without its sent flag: what the issue and the end of a stroke change (R81; log 15). -/
def strokeKey : Option Stroke → List Byte
  | none => allOnes 9
  | some k => encNat 1 (strokeKindCode k.kind) ++ encNat 2 k.volume ++ encOpt 2 k.ring ++ encStamp k.issued

/-! ## The sections (R151) -/

/-- Section 0, the cycle items of R1 without the rate cap items. -/
def cycleItems (a : Abu) : List StatusItem :=
  [loud (encNat 1 (phaseCode a.phase)), loud (encCode phaseCode a.resumePhase), loud (encCode causeCode a.haltCause),
   loud (encOpt 1 (a.haltCause.bind causeSubject)), loud (encNat 1 a.furtherCauses), quiet (encOptInt 4 a.advanceRef),
   loud (encInt 4 a.strokeStart), loud (encInt 4 a.strokeTarget)]

/-- Section 0, the CHM items of R46. -/
def cutterItems (c : Chm) : List StatusItem :=
  [loud (encNat 1 (cutterStateCode c.state)), loud (encNat 1 (directionCode c.direction)),
   quiet (encNat 1 (driveModeCode c.mode)), quiet (encNat 2 c.manualSpeed), quiet (encNat 2 c.speedSent),
   quiet (encOpt 2 c.speed), quiet (encOpt 2 c.torque), quiet (encOptInt 2 c.roll)]

/-- Section 0, the plan items of R119, in the order of its sentence (log 16); the REPEATED flag is clear while no plan is
active (log 45). -/
def planItems (u : Rru) : List StatusItem :=
  [loud (encOpt 2 (u.active.map fun p => p.plan.ring)), loud (encFlag (u.active.any fun p => p.repeated)),
   loud (encNat 1 u.queue.length)]

/-- Section 0, the ring table items of R126. -/
def recordItems (u : Rru) : List StatusItem :=
  [quiet (encNat 1 u.records.length), quiet (encOpt 2 (u.records.getLast?.map fun r => r.plan.ring)),
   quiet (encCode recordStatusCode (u.records.getLast?.map fun r => r.status))]

/-- The active plan's fields, when a plan is active (R125; log 16). -/
def activePlanItems (u : Rru) : List StatusItem :=
  match u.active with
  | none => []
  | some p => [quiet (encPlan p.plan)]

/-- Section 0, PHASE. -/
def phaseSection (s : State) : List StatusItem :=
  cycleItems s.abu ++ cutterItems s.chm ++ planItems s.rru ++ recordItems s.rru ++ activePlanItems s.rru

/-- Section 1, FACE (R23). -/
def faceSection (f : Fbu) : List StatusItem :=
  [loud (encOpt 2 f.pw), loud (encFlag f.valid), loud (encNat 1 f.count), loud (encCode faceClassCode f.faceClass),
   loud (encOpt 2 f.tEff), loud (encNat 1 f.bias), loud (encInt 2 f.trim), loud (encNat 1 (convergenceCode f.convergence)),
   loud (encNat 1 (driveModeCode f.screwMode)), loud (encNat 2 f.manual), loud (encNat 2 f.screwSent),
   loud (encNat 1 (gateCode f.gateSent)), loud (encOpt 2 (f.echo.map Prod.fst)),
   loud (encCode gateCode (f.echo.map Prod.snd))]

/-- Section 2, CAPS (R6 to R8). -/
def capsSection (a : Abu) : List StatusItem :=
  [loud (encNat 1 a.caps.plan), loud (encCap a.caps.cabin), loud (encCap a.caps.face), loud (encCap a.caps.cutter),
   loud (encCap a.caps.grout), loud (encCap a.caps.muck), loud (encNat 1 a.effective), loud (encCode entryCode a.held),
   loud (encNat 1 a.rateSent)]

/-- Whether F_req and the holding force are shown: in BUILDING and BUILD_SUSPENDED (R65). -/
def forcesShown (p : Phase) : Bool := p == .building || p == .buildSuspended

/-- One thrust group's items (R58). -/
def groupItem (g : Group) : StatusItem :=
  loud (encNat 1 (groupStateCode g.state) ++ encFlag g.lock ++ encCode groupPositionCode g.position)

/-- One sector's items (R64). -/
def encSector (k : Sector) : List Byte := encNat 1 (sectorStateCode k.state) ++ encOpt 2 k.gap ++ encNat 1 k.reseats

/-- The build order; all ones when absent (R63). -/
def encBuildOrder : Option (Vector (Fin 7) 7) → List Byte
  | none => allOnes 7
  | some o => o.toList.flatMap fun k => encNat 1 k.val

/-- Section 3, GROUPS (R58, R63 to R65). F_req alone sets no flag (R151). -/
def groupsSection (s : State) : List StatusItem :=
  s.abu.groups.toList.map groupItem ++
    [loud (encBuildOrder s.abu.buildOrder), loud (encOpt 1 (s.abu.expected.map Fin.val))] ++
    s.abu.sectors.toList.map (fun k => loud (encSector k)) ++
    [loud (encNat 1 s.abu.suspensions), quiet (encOpt 4 (if forcesShown s.abu.phase then requiredNow s else none)),
     loud (encOpt 4 (if forcesShown s.abu.phase then some (holdingForce s) else none))]

/-- The grout ring items (R80). -/
def groutRingItems (s : State) : List StatusItem :=
  [loud (encOpt 2 s.gru.groutRing), quiet (encNat 4 (s.gru.demand / 1000000)), quiet (encNat 4 s.gru.delivered),
   quiet (encInt 4 (deficit s)), loud (encNat 1 (lagBandCode s.gru.band))]

/-- One grout line's items (R81). -/
def lineItems (x : Line) : List StatusItem :=
  [loud (encNat 1 (lineStateCode x.state)), loud (encNat 1 (lineModeCode x.mode)), loud (encNat 2 x.share),
   quiet (encNat 4 (x.acc / 1000000)), quiet (encStroke x.stroke), quiet (encOpt 2 x.pressure),
   loud (encCode blockCauseCode x.cause)]

/-- Section 4, LINES (R80, R81). -/
def linesSection (s : State) : List StatusItem := groutRingItems s ++ s.gru.lines.toList.flatMap lineItems

/-- Section 5, MUCK, in the order of the sentence of R103; without an OPEN slice its place holds ones in the whole width of
a slice record (log 16). -/
def muckSection (s : State) : List StatusItem :=
  [quiet (encNat 6 s.mbu.belt), loud (encOpt 6 (s.mbu.tail.map fun t => t.position)),
   quiet (encNat 1 s.mbu.slices.length),
   quiet (match openSliceOf s with | none => allOnes sliceWidth | some x => encSlice x),
   loud (encNat 1 s.mbu.overRun), loud (encNat 1 s.mbu.okRun), loud (encNat 1 (overdigCode s.mbu.overdig)),
   loud (encFlag s.mbu.openingPending), loud (encNat 4 s.mbu.unattributed), quiet (encNat 2 s.mbu.negativeTravel),
   quiet (encNat 2 s.mbu.negativeMass)]

/-- Section 6, NODES (R132). -/
def nodesSection (m : Mlp) : List StatusItem :=
  m.nodes.toList.map (fun n => loud (encNat 1 (nodeStateCode n.state))) ++
    [loud (encFlag m.frozen), quiet (encNat 1 m.queue.length)]

/-- The items of a section, in their order (R151; log 16). -/
def sectionItems (n : Fin 7) (s : State) : List StatusItem :=
  match n with
  | 0 => phaseSection s
  | 1 => faceSection s.fbu
  | 2 => capsSection s.abu
  | 3 => groupsSection s
  | 4 => linesSection s
  | 5 => muckSection s
  | 6 => nodesSection s.mlp

/-- A section's bytes as they stand (R151). -/
def sectionBytes (n : Fin 7) (s : State) : List Byte := (sectionItems n s).flatMap StatusItem.bytes

/-! ## Change flags (R151) -/

/-- What a section's flag watches beside its own items: the status of every record (R126), the strokes in flight (R81),
the slices with their states and verdicts (R103; log 15). -/
def watchedBeside (n : Fin 7) (s : State) : List Byte :=
  match n with
  | 0 => s.rru.records.flatMap fun r => encNat 2 r.plan.ring ++ encNat 1 (recordStatusCode r.status)
  | 4 => s.gru.lines.toList.flatMap fun x => strokeKey x.stroke
  | 5 =>
    s.mbu.slices.flatMap fun x =>
      encNat 2 x.ring ++ encNat 1 x.index ++ encNat 1 (sliceStateCode x.state) ++ encCode verdictCode x.verdict
  | 1 | 2 | 3 | 6 => []

/-- The values whose change sets a section's flag. -/
def sectionKey (n : Fin 7) (s : State) : List Byte :=
  ((sectionItems n s).filter StatusItem.flags).flatMap StatusItem.bytes ++ watchedBeside n s

/-- Whether a section's change flag is set: its copy is empty, or a watched item differs from it (R151, R153). An item is
compared by the bytes that the section sends for it: two values of one encoding, as grout ring 65,535 and no grout ring,
do not differ. R151 leaves this open: DESIGN CHOICE, unsafe (log 50). -/
def flagRaised (s : State) (n : Fin 7) : Bool :=
  match s.clp.copies[n] with
  | none => true
  | some c => !(c.key == sectionKey n s)

/-- The first section, in section order, whose flag is set (R152). -/
def firstFlagged (s : State) : Option (Fin 7) := allGroups.find? (flagRaised s)

/-- Whether at least one change flag is set (R152). -/
def anyFlag (s : State) : Bool := (firstFlagged s).isSome

/-! ## The header and the whole (R151) -/

/-- The status header: time stamp, section number, phase, link error counts, lost count, events waiting (R151). -/
def statusHeader (n : Fin 7) (s : State) : List Byte :=
  encStamp s.ms ++ encNat 1 n.val ++ encNat 1 (phaseCode s.abu.phase) ++ encNat 2 s.clp.gapCount ++
    encNat 2 s.clp.crcCount ++ encNat 2 s.clp.lenCount ++ encNat 2 s.clp.overrunCount ++ encNat 2 s.clp.lost ++
    encNat 1 s.clp.events.length

/-- The header and a section as they stand: the payload of a status report, and of a STATUS reply after its result code
(R147, R151). -/
def statusPayload (n : Fin 7) (s : State) : List Byte := statusHeader n s ++ sectionBytes n s

/-- The copy kept of a section as sent (R151). -/
def copyOf (n : Fin 7) (s : State) : SectionCopy := { sent := sectionBytes n s, key := sectionKey n s }

end Sys2Proof.Machine
end

