-- ==== Sys2Proof/Machine/Reads.lean ====
section
/-! DEFINITION. What the read requests return after their result code: ring records (R131), slices (R116), node entries
(R141), lines (R147), plans (R125) and settings (R157), encoded by R145 (unstated widths: log 17). -/

namespace Sys2Proof.Machine

/-! ## RING READ (R131, R128) -/

/-- The mean P_w of a face part: the sum divided by the count, rounded down; absent while the count is 0 (R128). -/
def meanPw (p : FacePart) : Option Nat := if p.pwCount = 0 then none else some (p.pwSum / p.pwCount)

/-- The advance part. -/
def encAdvancePart (p : AdvancePart) : List Byte :=
  encInt 4 p.strokeStart ++ encInt 4 p.length ++ encNat 1 p.holds ++ encNat 1 p.safeStops

/-- The face part, with the mean after its fields. -/
def encFacePart (p : FacePart) : List Byte :=
  encOpt 2 p.pwMin ++ encOpt 2 p.pwMax ++ encNat 8 p.pwSum ++ encNat 4 p.pwCount ++ encNat 2 p.highCount ++
    encNat 2 p.lowCount ++ encOpt 1 p.bias ++ encOpt 2 (meanPw p)

/-- The cutter part. -/
def encCutterPart (p : CutterPart) : List Byte := encOpt 2 p.maxTorque ++ encNat 1 (directionCode p.direction)

/-- The build part. -/
def encBuildPart (p : BuildPart) : List Byte := p.sectors.toList.flatMap encSector ++ encNat 1 p.suspensions

/-- The grout part. -/
def encGroutPart (p : GroutPart) : List Byte :=
  (p.lines.toList.flatMap fun x => encNat 4 x.ml ++ encNat 2 x.strokes) ++ encNat 4 p.demandMl ++ encInt 4 p.deficit

/-- The muck part. -/
def encMuckPart (p : MuckPart) : List Byte :=
  encNat 2 p.slices ++ encNat 4 p.measured ++ encNat 4 p.theoretical ++ encNat 2 p.overs ++ encNat 2 p.unders

/-- A ring record: status, final flags, each with its CUT mark behind it (log 47), and the six parts (R131). -/
def encRecord (r : RingRecord) : List Byte :=
  encNat 1 (recordStatusCode r.status) ++ encFlag r.buildFinal ++ encFlag r.groutFinal ++ encFlag r.groutCut ++
    encFlag r.muckFinal ++ encFlag r.muckCut ++ encPlan r.plan ++ encFlag r.repeated ++ encAdvancePart r.advance ++
    encFacePart r.face ++ encCutterPart r.cutter ++ encBuildPart r.build ++ encGroutPart r.grout ++ encMuckPart r.muck

/-- The record that a ring number names; 0 names the newest (R131). -/
def recordNamed (s : State) (ring : Nat) : Option RingRecord :=
  if ring = 0 then s.rru.records.getLast? else s.rru.records.find? fun r => r.plan.ring == ring

/-! ## SLICE READ (R116) -/

/-- The ratio beside the verdict: in four bytes, held at its greatest value, once the slice is FINAL (R116, R145). -/
def encRatio (x : Slice) : List Byte :=
  if isFinal x then encNat 4 (min 4294967295 (sliceRatio x)) else allOnes 4

/-- A slice as SLICE READ returns it. -/
def encSliceRead (x : Slice) : List Byte := encSlice x ++ encRatio x

/-- The MBU summary: section 5 as it stands, which holds the number of slices once (R116; log 46). -/
def muckSummary (s : State) : List Byte := sectionBytes 5 s

/-! ## NODE READ (R141) -/

/-- The width of the value that a role's echoed item carries, 0 when it has none (8.1, R145). -/
def echoedWidth : Role → Nat
  | .face | .belt => 0
  | .thrust | .erector => 1
  | .screw => 2
  | .cutter | .grout _ => 4

/-- The last transmitted value of a role's echoed key (log 19). -/
def encLastTransmitted (r : Role) : Option Command → List Byte
  | none => allOnes (echoedWidth r)
  | some c => encCommand c

/-- The time since a node's last arrival in ms (R141). -/
def sinceArrival (s : State) (n : Node) : Option Nat := n.lastArrival.map fun t => elapsed s.ms t

/-- A node entry (R132, R141). -/
def encNode (s : State) (r : Role) : List Byte :=
  let n := nodeOf s r
  encNat 1 (roleIndex r).val ++ encNat 1 (addressOf s r) ++ encNat 1 (nodeStateCode n.state) ++
    encOpt 1 (n.lastSequence.map BitVec.toNat) ++ encNat 4 n.received ++ encNat 4 n.missed ++ encNat 1 n.mismatchRun ++
    encNat 2 (timeoutOf s r) ++ encNat 1 (timerCode n.silenceTimer) ++ encOptStamp n.lastArrival ++
    encOpt 4 (sinceArrival s n) ++ encLastTransmitted r n.lastTransmitted

/-- The time left on a running timer in ms; absent when it does not run (log 26). -/
def timeLeft (now : Stamp) : Timer → Option Nat
  | .running start d => some (d - elapsed now start)
  | _ => none

/-- The line counts, in the order of R132. -/
def encLineCounts (m : Mlp) : List Byte :=
  encNat 2 m.gapCount ++ encNat 2 m.crcCount ++ encNat 2 m.lenCount ++ encNat 2 m.unknownCount ++
    encNat 2 m.repeatedCount

/-- What NODE READ returns for a role (R141). -/
def encNodeRead (s : State) (r : Role) : List Byte :=
  encNode s r ++ encLineCounts s.mlp ++ encFlag s.mlp.frozen ++ encOpt 2 (timeLeft s.ms s.mlp.freezeTimer) ++
    encNat 1 s.mlp.queue.length

/-! ## LINE READ (R147) -/

/-- The whole line record of R81, in its order, the accumulator rounded down to ml (00_scope.md 4.1). -/
def encLine (s : State) (l : Fin 6) : List Byte :=
  let x := lineOf s l
  encNat 1 (lineStateCode x.state) ++ encNat 1 (lineModeCode x.mode) ++ encNat 1 (lineModeCode x.pendingMode) ++
    encNat 2 s.cfb.grout.baseShares[l] ++ encNat 2 x.share ++ encNat 4 (x.acc / 1000000) ++ encStroke x.stroke ++
    encNat 1 (timerCode x.strokeTimer) ++ encNat 4 x.period ++ encNat 4 x.pendingPeriod ++
    encNat 1 (timerCode x.periodTimer) ++ encNat 1 x.topUp ++ encNat 1 x.flush ++ encOpt 2 x.pressure ++
    encNat 2 x.ringStrokes ++ encNat 4 x.ringVolume ++ encCode blockCauseCode x.cause

/-- An entry of the finishing list (R80; log 17). -/
def encFinishing (e : Finishing) : List Byte :=
  encNat 2 e.ring ++ encNat 4 (e.demand / 1000000) ++ encNat 4 e.delivered ++ encNat 1 e.inFlight

/-- What LINE READ returns for a line (R147). -/
def encLineRead (s : State) (l : Fin 6) : List Byte :=
  encLine s l ++ (groutRingItems s).flatMap StatusItem.bytes ++ encNat 1 s.gru.finishing.length ++
    s.gru.finishing.flatMap encFinishing ++ encNat 4 s.gru.unattributed

/-! ## PLAN LIST (R125) -/

/-- What PLAN LIST returns; the REPEATED flag is clear while no plan is active (R125; log 45). -/
def encPlanList (u : Rru) : List Byte :=
  encNat 2 (match u.active with | none => 0 | some p => p.plan.ring) ++ encFlag (u.active.any fun p => p.repeated) ++
    encFlag u.exhausted ++ encNat 1 u.queue.length ++ u.queue.flatMap fun p => encNat 2 p.ring

/-! ## GET and SET (R155, R157) -/

/-- Six share values, each in two bytes. -/
def encShares (xs : Vector Nat 6) : List Byte := xs.toList.flatMap (encNat 2)

/-- The value of an item of one value; all ones while a derived value is absent (R157). -/
def encSetting (v : Option Int) : List Byte :=
  match v with
  | none => allOnes 4
  | some x => encInt 4 x

/-- The value, the least, the greatest and the default of an item (R157). -/
def encSettingRead (c : Cfb) (i : SettingItem) : List Byte :=
  if i = .baseShares then
    encShares c.grout.baseShares ++ encNat 2 0 ++ encNat 2 1000 ++ encShares Cfb.reset.grout.baseShares
  else if readOnly i then encSetting (getSetting c i) ++ allOnes 4 ++ allOnes 4 ++ allOnes 4
  else
    encSetting (getSetting c i) ++ encInt 4 (settingRange i).1 ++ encInt 4 (settingRange i).2 ++
      encSetting (getSetting Cfb.reset i)

end Sys2Proof.Machine
end

