-- ==== Sys2Proof/Machine/Requests.lean ====
section
/-! DEFINITION. The requests of the host: what each owner checks, does and answers (R4, R11, R13, R15, R16, R19, R22,
R32, R37, R43, R44, R56, R66 to R68, R91 to R95, R116, R118 to R125, R131, R140, R141, R147, R155, R157, R158). Each takes
a payload whose length the catalogue of R146 allows. -/

namespace Sys2Proof.Machine

/-- An answer: the result code and the bytes after it (R144). -/
structure Answer where
  code : ResultCode
  rest : List Byte
  deriving DecidableEq, Repr

/-- What an owner hands back: the state its action leaves, and the answer (R144). -/
abbrev Owner := List Byte → State → State × Answer

/-- A result code alone. -/
def bare (c : ResultCode) : Answer := { code := c, rest := [] }

/-- REFUSED_CONDITION with its reason byte (R4). -/
def conditionFails (reason : Nat) : Answer := { code := .refusedCondition, rest := encNat 1 reason }

/-- OK, or CLAMPED when a value was clamped. -/
def okOrClamped (clamped : Bool) : Answer := bare (if clamped then .clamped else .ok)

/-! ## Requests of the CLP (R147) -/

/-- STATUS (R147). -/
def answerStatus : Owner := fun p s =>
  if h : natAt p 0 1 < 7 then (s, { code := .ok, rest := statusPayload ⟨natAt p 0 1, h⟩ s }) else (s, bare .badItem)

/-- PING (R147). -/
def answerPing : Owner := fun p s => (s, { code := .ok, rest := p })

/-! ## Settings and commissioning (R155, R157, R158) -/

/-- COMMISSION (R2, R158, R159). -/
def answerCommission : Owner := fun _ s =>
  if s.abu.phase = .unconfigured ∨ s.abu.phase = .idle then
    match commissionFailure s with
    | some (reason, none) => (s, conditionFails reason)
    | some (reason, some r) =>
      (s, { code := .refusedCondition, rest := encNat 1 reason ++ encNat 1 (roleIndex r).val })
    | none =>
      (commission s,
        { code := .ok, rest := encNat 4 (faceArea s.cfb.geometry) ++ encNat 2 (voidRate s.cfb.geometry) })
  else (s, bare .refusedState)

/-- The six values that a SET of base_shares carries. -/
def writtenShares (p : List Byte) : Vector Nat 6 := Vector.ofFn fun l : Fin 6 => natAt p (2 + 2 * l.val) 2

/-- A SET of base_shares that passes (R98, R155). -/
def setShares (p : List Byte) (s : State) : State × Answer :=
  let stored := storedShares (writtenShares p)
  (writeShares stored s,
    { code := if stored = writtenShares p then .ok else .clamped, rest := p.take 2 ++ encShares stored })

/-- A SET of an item of one value that passes (R155). -/
def setOne (i : SettingItem) (p : List Byte) (s : State) : State × Answer :=
  let stored := storedValue s.cfb i (intAt p 2 4)
  (writeSetting (natAt p 0 1) i stored s,
    { code := if stored = intAt p 2 4 then .ok else .clamped, rest := p.take 2 ++ encInt 4 stored })

/-- The payload length of a SET of an item (R155 check 2). -/
def setLength (i : SettingItem) : Nat := if i = .baseShares then 14 else 6

/-- SET (R155). -/
def answerSet : Owner := fun p s =>
  match settingItem (natAt p 0 1) (natAt p 1 1) with
  | none => (s, bare .badItem)
  | some i =>
    if readOnly i then (s, bare .badItem)
    else if p.length ≠ setLength i then (s, bare .badLength)
    else if writesTaken (natAt p 0 1) s.abu.phase = false then (s, bare .refusedState)
    else if i = .baseShares then setShares p s
    else setOne i p s

/-- GET (R157). -/
def answerGet : Owner := fun p s =>
  match settingItem (natAt p 0 1) (natAt p 1 1) with
  | none => (s, bare .badItem)
  | some i => (s, { code := .ok, rest := p.take 2 ++ encSettingRead s.cfb i })

/-! ## RESTART (R22, R24, R46, R101, R115, R132, R153) -/

/-- The CLP at RESTART: the event queue emptied, the lost count 0, the requests behind this one removed (R153). -/
def restartClp (s : State) : State := s.onClp fun c => { c with events := [], lost := 0, rxQueue := c.rxQueue.take 1 }

/-- The ABU's state after RESTART, but the phase (R22, R58, R63, R64). -/
def restartedAbu (plan : Nat) (a : Abu) : Abu :=
  { a with
    resumePhase := none
    haltCause := none
    furtherCauses := 0
    advanceRef := none
    caps := { Abu.reset.caps with plan := plan }
    rateSent := 0
    held := none
    groups := Abu.reset.groups
    buildOrder := none
    expected := none
    sectors := Abu.reset.sectors
    suspensions := 0 }

/-- The job blocks and the ports at RESTART, in the order of log 27. -/
def restartBlocks (s : State) : State :=
  let ported := restartMlp (restartClp s)
  let jobbed := (ported.onFbu fun f => { Fbu.reset with bias := f.bias }).onChm fun _ => Chm.reset
  restartMuck (restartGrout jobbed)

/-- RESTART taken (R22). -/
def restartCycle (s : State) : State :=
  let blocks := restartBlocks s
  let reset := recomputeRate (blocks.onAbu (restartedAbu (planRate blocks.rru.active)))
  if s.abu.phase = .unconfigured then reset else enterCommissioned reset

/-- RESTART (R22). -/
def answerRestart : Owner := fun _ s =>
  if s.abu.phase = .unconfigured ∨ s.abu.phase = .idle ∨ s.abu.phase = .ready then (restartCycle s, bare .ok)
  else (s, bare .refusedState)

/-! ## Plans (R118, R120 to R125) -/

/-- The direction of a code (R118). -/
def planDirectionOf (b : Byte) : Option PlanDirection :=
  if b = 0 then some .cw else if b = 1 then some .ccw else if b = 2 then some .auto else none

/-- The line mode of a code (R95, R118). -/
def lineModeOf (b : Byte) : Option LineMode := if b = 0 then some .locked else if b = 1 then some .free else none

/-- Where the fields of a PLAN PUSH payload stand: the line modes count and slots, the trims count and slots (R146). -/
def modesAt : Nat := 16
/-- The offset of the trims count of a PLAN PUSH payload. -/
def trimsAt : Nat := 23

/-- Whether the line modes of a pushed plan are well formed: a count of 0, or of 6 with six known codes (R118). -/
def modesFit (p : List Byte) : Bool :=
  natAt p modesAt 1 == 0 ||
    (natAt p modesAt 1 == 6 && allLines.all fun l => (lineModeOf (byteAt p (modesAt + 1 + l.val))).isSome)

/-- The line modes of a pushed plan (R118). -/
def pushedModes (p : List Byte) : Option (Vector LineMode 6) :=
  if natAt p modesAt 1 = 0 then none
  else some (Vector.ofFn fun l : Fin 6 => (lineModeOf (byteAt p (modesAt + 1 + l.val))).getD .locked)

/-- The steering trims of a pushed plan, as written (R118). -/
def writtenTrims (p : List Byte) : List Int :=
  (List.range (natAt p trimsAt 1)).map fun i => intAt p (trimsAt + 1 + 2 * i) 2

/-- The numeric fields of a pushed plan, as written, each with its range (R118, R146). -/
def writtenFields (p : List Byte) : List (Nat × Nat × Nat) :=
  [(natAt p 0 2, 1, 65535), (natAt p 2 1, 0, 6), (natAt p 3 2, 5, 120), (natAt p 5 2, 0, 800), (natAt p 7 2, 0, 400),
   (natAt p 10 2, 1000, 2000), (natAt p 12 2, 1200, 2800), (natAt p 14 2, 0, 5000)]

/-- Whether any field of a pushed plan is clamped (R118). -/
def planClamped (p : List Byte) : Bool :=
  (writtenFields p).any (fun f => clampNat f.2.1 f.2.2 f.1 != f.1) ||
    (writtenTrims p).any fun t => clampInt (-300) 300 t != t

/-- The pushed plan with its numeric fields clamped (R118). -/
def clampedPlan (p : List Byte) (d : PlanDirection) : Plan where
  ring := clampNat 1 65535 (natAt p 0 2)
  keySector := Fin.ofNat 7 (clampNat 0 6 (natAt p 2 1))
  rate := clampNat 5 120 (natAt p 3 2)
  target := clampNat 0 800 (natAt p 5 2)
  cutterSpeed := clampNat 0 400 (natAt p 7 2)
  direction := d
  fill := clampNat 1000 2000 (natAt p 10 2)
  density := clampNat 1200 2800 (natAt p 12 2)
  additive := clampNat 0 5000 (natAt p 14 2)
  lineModes := pushedModes p
  trims := (writtenTrims p).map (clampInt (-300) 300)

/-- The plan that a payload offers, or none at a fault in its enumerated fields or its lists (R118). -/
def offeredPlan (p : List Byte) : Option Plan :=
  match planDirectionOf (byteAt p 9) with
  | none => none
  | some d => if modesFit p && decide (natAt p trimsAt 1 ≤ 7) then some (clampedPlan p d) else none

/-- The expected ring number: any, or one number that need not exist (R120). -/
inductive ExpectedRing where
  | any
  | number (n : Option Nat)
  deriving DecidableEq, Repr

/-- The number after a ring number, while it exists (R120). -/
def successor (n : Nat) : Option Nat := if n + 1 ≤ 65535 then some (n + 1) else none

/-- The expected ring number: the first row of R120 that applies. -/
def expectedRing (u : Rru) : ExpectedRing :=
  match u.queue.getLast?, u.active, u.records.getLast? with
  | some q, _, _ => .number (successor q.ring)
  | none, some p, _ => .number (successor p.plan.ring)
  | none, none, some r => .number (successor r.plan.ring)
  | none, none, none => .any

/-- Whether a ring number is the expected one (R121 row 3). -/
def isExpected (u : Rru) (ring : Nat) : Bool :=
  match expectedRing u with
  | .any => true
  | .number n => n == some ring

/-- The expected number that REFUSED_SEQUENCE carries, 0 when there is none (R121). -/
def expectedNumber (u : Rru) : Nat :=
  match expectedRing u with
  | .any => 0
  | .number n => n.getD 0

/-- Whether a pushed plan replaces the REPEATED active plan (R122). -/
def replacesActive (s : State) (ring : Nat) : Bool :=
  match s.rru.active with
  | none => false
  | some p => p.repeated && s.abu.phase == .ready && p.plan.ring == ring

/-- The replacement of the active plan (R122). -/
def replaceActive (q : Plan) (s : State) : State :=
  postPlan q.rate (s.onRru fun u => { u with active := some { plan := q, repeated := false } })

/-- A push taken at row 4 of R121. -/
def appendPlan (q : Plan) (s : State) : State := activateInIdle (s.onRru fun u => { u with queue := u.queue ++ [q] })

/-- A pushed plan judged in the order of R121. -/
def judgePush (q : Plan) (clamped : Bool) (s : State) : State × Answer :=
  if replacesActive s q.ring then (replaceActive q s, { code := .replaced, rest := encFlag clamped })
  else if 8 ≤ s.rru.queue.length then (s, bare .refusedFull)
  else if isExpected s.rru q.ring = false then
    (s, { code := .refusedSequence, rest := encNat 2 (expectedNumber s.rru) })
  else (appendPlan q s, okOrClamped clamped)

/-- PLAN PUSH (R121). -/
def answerPlanPush : Owner := fun p s =>
  match offeredPlan p with
  | none => (s, bare .badItem)
  | some q => judgePush q (planClamped p) s

/-- PLAN DROP (R125). -/
def answerPlanDrop : Owner := fun _ s =>
  (s.onRru fun u => { u with queue := [] }, { code := .ok, rest := encNat 1 s.rru.queue.length })

/-- PLAN LIST (R125). -/
def answerPlanList : Owner := fun _ s => (s, { code := .ok, rest := encPlanList s.rru })

/-! ## The cycle (R4, R11, R13, R15, R16, R19) -/

/-- Whether a role's node is LIVE. -/
def isLive (s : State) (r : Role) : Bool := (nodeOf s r).state == .live

/-- The reason byte of the first essential node, in the order of R4, that is not LIVE. -/
def nodeReason (s : State) : Option Nat :=
  if !isLive s .face then some 1
  else if !isLive s .cutter then some 2
  else if !isLive s .screw then some 3
  else if !isLive s .thrust then some 4
  else none

/-- The reason byte of the first of checks 1 to 5 of R4 that fails. -/
def readyReason (s : State) : Option Nat :=
  match nodeReason s with
  | some r => some r
  | none => if s.fbu.valid then none else some 5

/-- Whether all seven groups are HOLDING. -/
def allHolding (s : State) : Bool := allGroups.all fun g => (groupOf s g).state == .holding

/-- Whether the ring table has room (R4). -/
def tableHasRoom (s : State) : Bool :=
  decide (s.rru.records.length < 16) || s.rru.records.head?.any fun r => r.status == .complete

/-- The refusal of START in READY, when there is one (R4). -/
def startRefusal (s : State) : Option Answer :=
  match readyReason s with
  | some r => some (conditionFails r)
  | none =>
    if allHolding s = false then some (conditionFails 6)
    else if tableHasRoom s = false then some (bare .refusedFull)
    else none

/-- START (R4, R5). READY without an active plan is unreachable (log 32). -/
def answerStart : Owner := fun _ s =>
  if s.abu.phase = .ready then
    match startRefusal s, s.rru.active with
    | some a, _ => (s, a)
    | none, some p => (startStroke p s, bare .ok)
    | none, none => (s, bare .refusedState)
  else (s, bare .refusedState)

/-- HOLD (R15). -/
def answerHold : Owner := fun _ s => (postCabin (.rate 0) s, bare .ok)

/-- RELEASE (R15). -/
def answerRelease : Owner := fun _ s => (postCabin .noLimit s, bare .ok)

/-- END STROKE (R11). -/
def answerEndStroke : Owner := fun _ s =>
  if s.abu.phase ≠ .boring then (s, bare .refusedState)
  else if lengthAchieved s < s.cfb.geometry.ringWidth then (s, conditionFails 7)
  else (enterStrokeEnd s, bare .ok)

/-- Whether the latest SCREW sample echoed speed 0 (R13). -/
def screwAtRest (s : State) : Bool := s.fbu.echo.any fun e => e.1 == 0

/-- ENTER BUILD (R13). STROKE_END without an active plan is unreachable (log 32). -/
def answerEnterBuild : Owner := fun _ s =>
  if s.abu.phase ≠ .strokeEnd then (s, bare .refusedState)
  else if s.chm.state ≠ .stopped then (s, conditionFails 8)
  else if screwAtRest s = false then (s, conditionFails 9)
  else match s.rru.active with
    | some p => (enterBuild p s, bare .ok)
    | none => (s, bare .refusedState)

/-- SAFE STOP (R16, R18). -/
def answerSafeStop : Owner := fun _ s => (requestSafeStop s, bare .ok)

/-- Whether the halt cause is still present (R19 checks 1 and 2). -/
def causePresent (s : State) : Bool :=
  match s.abu.haltCause with
  | some (.node _) => (nodeReason s).isSome
  | some .faceInvalid => !s.fbu.valid
  | _ => false

/-- The reason byte of the first check of R19 that fails. -/
def resumeReason (p : Phase) (s : State) : Option Nat :=
  if causePresent s then some 10 else if activePhase p then readyReason s else none

/-- RESUME (R19, R20). HALTED without a resume phase is unreachable (log 32). -/
def answerResume : Owner := fun _ s =>
  if s.abu.phase = .halted then
    match s.abu.resumePhase with
    | none => (s, bare .refusedState)
    | some p => match resumeReason p s with
      | some r => (s, conditionFails r)
      | none => (resumeCycle p s, bare .ok)
  else (s, bare .refusedState)

/-! ## Thrust groups and sectors (R66 to R68) -/

/-- REFUSED_HOLDING with the reason byte, F_req (0 while the face is INVALID) and the force of the other groups (R66). -/
def holdingFails (reason : Nat) (s : State) (g : Fin 7) : Answer :=
  { code := .refusedHolding
    rest := encNat 1 reason ++ encNat 4 ((requiredNow s).getD 0) ++ encNat 4 (holdingForceWithout s g) }

/-- Rows 6 to 8 of R66 and R67. -/
def holdingRefusal (s : State) (g : Fin 7) : Option Answer :=
  match requiredNow s with
  | none => some (holdingFails 5 s g)
  | some f =>
    if s.cfb.thrust.maxRetracted ≤ 7 - holdingCount s (fun _ => true) then some (holdingFails 12 s g)
    else if holdingForceWithout s g < f then some (holdingFails 13 s g)
    else none

/-- Rows 3 to 8 of R66 and R67; row 4 asks what the request names of the sector. -/
def withdrawalRefusal (sectorFits : Bool) (s : State) (g : Fin 7) : Option Answer :=
  if (groupOf s g).lock then some (bare .refusedLocked)
  else if sectorFits = false then some (bare .refusedOrder)
  else if (groupOf s g).state ≠ .holding then some (bare .refusedState)
  else holdingRefusal s g

/-- Whether a sector is the expected one and EMPTY (R66 row 4). -/
def retractFits (s : State) (g : Fin 7) : Bool := s.abu.expected == some g && (sectorOf s g).state == .empty

/-- Whether a sector is OFFSET (R67 row 4). -/
def reseatFits (s : State) (g : Fin 7) : Bool := (sectorOf s g).state == .offset

/-- A withdrawal that passes (R66, R67). -/
def withdrawGroup (g : Fin 7) (s : State) : State := checkStay (orderGroup g .retract s)

/-- RETRACT (R66). -/
def answerRetract : Owner := fun p s =>
  if s.abu.phase ≠ .building then (s, bare .refusedState)
  else if h : natAt p 0 1 < 7 then
    match withdrawalRefusal (retractFits s ⟨natAt p 0 1, h⟩) s ⟨natAt p 0 1, h⟩ with
    | some a => (s, a)
    | none => (withdrawGroup ⟨natAt p 0 1, h⟩ s, bare .ok)
  else (s, bare .badItem)

/-- RESEAT (R67). -/
def answerReseat : Owner := fun p s =>
  if s.abu.phase ≠ .building then (s, bare .refusedState)
  else if h : natAt p 0 1 < 7 then
    match withdrawalRefusal (reseatFits s ⟨natAt p 0 1, h⟩) s ⟨natAt p 0 1, h⟩ with
    | some a => (s, a)
    | none => (withdrawGroup ⟨natAt p 0 1, h⟩ s, bare .ok)
  else (s, bare .badItem)

/-- A sector taken as it stands, with its group locked (R68). -/
def acceptSector (k : Fin 7) (s : State) : State :=
  checkClosure (formExpected
    (onGroup k (fun g => { g with lock := true }) (onSector k (fun x => { x with state := .accepted }) s)))

/-- ACCEPT (R68). -/
def answerAccept : Owner := fun p s =>
  if s.abu.phase ≠ .building then (s, bare .refusedState)
  else if h : natAt p 0 1 < 7 then
    if (sectorOf s ⟨natAt p 0 1, h⟩).state ≠ .offset then (s, bare .refusedOrder)
    else if (groupOf s ⟨natAt p 0 1, h⟩).state ≠ .holding then (s, conditionFails 11)
    else (acceptSector ⟨natAt p 0 1, h⟩ s, bare .ok)
  else (s, bare .badItem)

/-! ## Face (R32, R37, R43, R44) -/

/-- SCREW MANUAL (R43). -/
def answerScrewManual : Owner := fun p s =>
  (formScrew (s.onFbu fun f => { f with manual := clampNat 0 1000 (natAt p 0 2), screwMode := .manual }),
    okOrClamped (decide (1000 < natAt p 0 2)))

/-- SCREW AUTO (R44). -/
def answerScrewAuto : Owner := fun _ s =>
  match s.fbu.screwMode with
  | .auto => (s, bare .ok)
  | .manual =>
    (formScrew (s.onFbu fun f =>
      { f with screwMode := .auto, trim := if s.abu.phase = .boring then reseededTrim s else f.trim }), bare .ok)

/-- The convergence mode of a code (R37). -/
def convergenceOf (b : Byte) : Option Convergence := if b = 0 then some .slow else if b = 1 then some .fast else none

/-- FACE MODE (R37). -/
def answerFaceMode : Owner := fun p s =>
  match convergenceOf (byteAt p 0) with
  | none => (s, bare .badItem)
  | some m => (s.onFbu fun f => { f with convergence := m }, bare .ok)

/-- BIAS CLEAR (R32). -/
def answerBiasClear : Owner := fun _ s => (s.onFbu fun f => { f with bias := 0 }, bare .ok)

/-! ## Cutterhead (R56) -/

/-- CUTTER MANUAL (R56). -/
def answerCutterManual : Owner := fun p s =>
  (formCutterSpeed (s.onChm fun c => { c with manualSpeed := clampNat 0 400 (natAt p 0 2), mode := .manual }),
    okOrClamped (decide (400 < natAt p 0 2)))

/-- CUTTER AUTO (R56). -/
def answerCutterAuto : Owner := fun _ s => (formCutterSpeed (s.onChm fun c => { c with mode := .auto }), bare .ok)

/-! ## Grout lines (R91 to R95) -/

/-- A line request on the line that the first payload byte names; a line above 5 is refused (5.6). -/
def onNamedLine (act : Fin 6 → List Byte → State → State × Answer) : Owner := fun p s =>
  if h : natAt p 0 1 < 6 then act ⟨natAt p 0 1, h⟩ p s else (s, bare .badItem)

/-- The record of a line that is paused (R91, R85). -/
def pausedLine (x : Line) : Line :=
  match x.state with
  | .running | .held | .idle => { x with state := .paused, periodTimer := .stopped }
  | .flushing => { x with state := .paused, flush := 0, periodTimer := .stopped }
  | .paused | .blocked => x

/-- LINE PAUSE (R91). -/
def answerLinePause : Owner := onNamedLine fun l _ s =>
  if lineBlocked s l then (s, bare .refusedState) else (issueCheck l (onLine l pausedLine s), bare .ok)

/-- The record of a line that returns to service (R92). -/
def continuedLine (s : State) (x : Line) : Line :=
  if s.abu.phase = .boring then becomeRunning s x else { x with state := .idle, periodTimer := .stopped }

/-- LINE CONTINUE (R92). -/
def answerLineContinue : Owner := onNamedLine fun l _ s =>
  if (lineOf s l).state = .paused then (issueCheck l (onLine l (continuedLine s) s), bare .ok)
  else (s, bare .refusedState)

/-- A CLEAR that passes (R93). -/
def clearLine (l : Fin 6) (s : State) : State :=
  issueChanged s (recomputeShares
    (onLine l
      (fun x => { x with state := .flushing, cause := none, flush := s.cfb.grout.flushStrokes, periodTimer := .stopped }) s))

/-- LINE CLEAR (R93). -/
def answerLineClear : Owner := onNamedLine fun l _ s =>
  if lineBlocked s l = false then (s, bare .refusedState)
  else if isLive s (.grout l) = false then (s, conditionFails 14)
  else (clearLine l s, bare .ok)

/-- LINE TOPUP (R94). -/
def answerLineTopup : Owner := onNamedLine fun l p s =>
  if (lineOf s l).state = .idle ∨ (lineOf s l).state = .running then
    (issueCheck l (onLine l (fun x => { x with topUp := clampNat 1 20 (natAt p 1 1) }) s),
      okOrClamped (clampNat 1 20 (natAt p 1 1) != natAt p 1 1))
  else (s, bare .refusedState)

/-- The pending period that LINE MODE sets for FREE (R95). -/
def freePeriodOf (s : State) (written : Nat) : Nat :=
  if written = 0 then s.cfb.grout.freePeriod else clampNat 5000 600000 written

/-- LINE MODE (R95). -/
def answerLineMode : Owner := onNamedLine fun l p s =>
  match lineModeOf (byteAt p 1) with
  | none => (s, bare .badItem)
  | some .locked => (issueCheck l (onLine l (fun x => { x with pendingMode := .locked }) s), bare .ok)
  | some .free =>
    (issueCheck l
      (onLine l (fun x => { x with pendingMode := .free, pendingPeriod := freePeriodOf s (natAt p 2 4) }) s),
      okOrClamped (natAt p 2 4 != 0 && clampNat 5000 600000 (natAt p 2 4) != natAt p 2 4))

/-! ## The Machine Line (R140, R141) -/

/-- FREEZE (R140). -/
def answerFreeze : Owner := fun _ s => (freezeItems s, bare .ok)

/-- UNFREEZE (R140). -/
def answerUnfreeze : Owner := fun _ s => (unfreezeItems s, bare .ok)

/-- NODE READ (R141). -/
def answerNodeRead : Owner := fun p s =>
  match allRoles[natAt p 0 1]? with
  | none => (s, bare .badItem)
  | some r => (s, { code := .ok, rest := encNodeRead s r })

/-! ## Reads of the records (R131, R116, R147) -/

/-- RING READ (R131). -/
def answerRingRead : Owner := fun p s =>
  match recordNamed s (natAt p 0 2) with
  | none => (s, { code := .notFound, rest := encNat 1 s.rru.records.length })
  | some r => (s, { code := .ok, rest := encRecord r })

/-- SLICE READ (R116). -/
def answerSliceRead : Owner := fun p s =>
  if 31 < natAt p 0 1 then (s, bare .badItem)
  else match s.mbu.slices[natAt p 0 1]? with
    | none => (s, { code := .notFound, rest := muckSummary s })
    | some x => (s, { code := .ok, rest := encSliceRead x ++ muckSummary s })

/-- LINE READ (R147). -/
def answerLineRead : Owner := onNamedLine fun l _ s => (s, { code := .ok, rest := encLineRead s l })

end Sys2Proof.Machine
end

