-- ==== Sys2Proof/Machine/Cabin.lean ====
section
/-! DEFINITION. The Cabin Link Port: the catalogue of requests (R146), the taking of requests (R143, R144), the transmit
arbiter (R148), event reports (R150), status reports (R151, R152) and the port's timers (R21, R152). -/

namespace Sys2Proof.Machine

/-! ## The catalogue (R146) -/

/-- A row of the catalogue: the kind, the payload lengths it allows, and the owner. -/
structure CatalogueRow where
  kind : Byte
  allows : Nat → Bool
  owner : Owner

/-- The catalogue of R146. -/
def catalogue : List CatalogueRow :=
  [⟨0x01, (· == 1), answerStatus⟩,
   ⟨0x02, (· ≤ 247), answerPing⟩,
   ⟨0x03, (· == 0), answerCommission⟩,
   ⟨0x04, (· == 0), answerRestart⟩,
   ⟨0x05, (fun n => n == 6 || n == 14), answerSet⟩,
   ⟨0x06, (· == 2), answerGet⟩,
   ⟨0x07, (· == 38), answerPlanPush⟩,
   ⟨0x08, (· == 0), answerPlanDrop⟩,
   ⟨0x09, (· == 0), answerPlanList⟩,
   ⟨0x0A, (· == 0), answerStart⟩,
   ⟨0x0B, (· == 0), answerHold⟩,
   ⟨0x0C, (· == 0), answerRelease⟩,
   ⟨0x0D, (· == 0), answerEndStroke⟩,
   ⟨0x0E, (· == 0), answerEnterBuild⟩,
   ⟨0x0F, (· == 0), answerSafeStop⟩,
   ⟨0x10, (· == 0), answerResume⟩,
   ⟨0x11, (· == 1), answerRetract⟩,
   ⟨0x12, (· == 1), answerReseat⟩,
   ⟨0x13, (· == 1), answerAccept⟩,
   ⟨0x14, (· == 2), answerScrewManual⟩,
   ⟨0x15, (· == 0), answerScrewAuto⟩,
   ⟨0x16, (· == 1), answerFaceMode⟩,
   ⟨0x17, (· == 0), answerBiasClear⟩,
   ⟨0x18, (· == 2), answerCutterManual⟩,
   ⟨0x19, (· == 0), answerCutterAuto⟩,
   ⟨0x1A, (· == 1), answerLinePause⟩,
   ⟨0x1B, (· == 1), answerLineContinue⟩,
   ⟨0x1C, (· == 1), answerLineClear⟩,
   ⟨0x1D, (· == 2), answerLineTopup⟩,
   ⟨0x1E, (· == 6), answerLineMode⟩,
   ⟨0x1F, (· == 0), answerFreeze⟩,
   ⟨0x20, (· == 0), answerUnfreeze⟩,
   ⟨0x21, (· == 2), answerRingRead⟩,
   ⟨0x22, (· == 1), answerSliceRead⟩,
   ⟨0x23, (· == 1), answerNodeRead⟩,
   ⟨0x24, (· == 1), answerLineRead⟩]

/-- The catalogue's row of a kind, when it holds one (R144). -/
def rowOf (kind : Byte) : Option CatalogueRow := catalogue.find? fun r => r.kind == kind

/-! ## Taking a request (R143, R144) -/

/-- A reply waits to be sent (R144, R148). -/
def placeReply (kind tag : Byte) (a : Answer) (s : State) : State :=
  s.onClp fun c => { c with reply := some { kind := kind, tag := tag, payload := resultByte a.code :: a.rest } }

/-- The cabin silence timer restarts (R21). -/
def restartSilence (s : State) : State :=
  s.onClp fun c => { c with silenceTimer := startedTimer s s.cfb.link.cabinSilence }

/-- A whole, valid request goes to its owner, and the answer waits to be sent (R144). -/
def serveRequest (owner : Owner) (f : CabinFrame) (s : State) : State :=
  let handed := owner f.payload (restartSilence s)
  placeReply (f.kind + 0x80) f.tag handed.2 handed.1

/-- A frame that has become the head of the receive queue is taken (R144). -/
def takeFrame (f : CabinFrame) (s : State) : State :=
  match rowOf f.kind with
  | none => placeReply 0xFF f.tag (bare .unknownKind) s
  | some row =>
    if row.allows f.payload.length then serveRequest row.owner f s
    else placeReply (f.kind + 0x80) f.tag (bare .badLength) s

/-- A whole frame arrives: it is dropped while the queue holds 4, else it waits; it is taken at once when it is the head
(R143). -/
def receiveFrame (f : CabinFrame) (s : State) : State :=
  if 4 ≤ s.clp.rxQueue.length then s.onClp fun c => { c with overrunCount := countUp c.overrunCount }
  else if s.clp.rxQueue = [] then takeFrame f (s.onClp fun c => { c with rxQueue := [f] })
  else s.onClp fun c => { c with rxQueue := c.rxQueue ++ [f] }

/-! ## Receiving bytes (R142) -/

/-- One byte taken off the Cabin Link (R142). -/
def cabinByte (b : Byte) (s : State) : State :=
  let rx := rxByte 3 s.clp.receiver b
  let received := s.onClp fun c => { c with receiver := rx.1 }
  match rx.2 with
  | .nothing => received
  | .badLength => received.onClp fun c => { c with lenCount := countUp c.lenCount }
  | .badCrc => received.onClp fun c => { c with crcCount := countUp c.crcCount }
  | .whole body => receiveFrame (cabinFrameOf body) received

/-- Bytes that arrive on the Cabin Link without a gap. -/
def cabinBytes (bytes : List Byte) (s : State) : State := bytes.foldl (fun t b => cabinByte b t) s

/-- A gap on the Cabin Link (R142). -/
def cabinGap (s : State) : State :=
  if insideFrame s.clp.receiver then
    s.onClp fun c => { c with receiver := .hunting, gapCount := countUp c.gapCount }
  else s

/-! ## The transmitter (R148, R150 to R152) -/

/-- The kind of a status report (9.7). -/
def statusKind : Byte := 0xF0
/-- The kind of an event report (9.7). -/
def eventKind : Byte := 0xF1

/-- A reply begins on the line (R148). -/
def sendReply (f : CabinFrame) (s : State) : State :=
  s.onClp fun c => { c with reply := none, tx := some { frame := f, isReply := true } }

/-- The event report that carries an event, with the lost count and the report count as they stand (R150). -/
def eventReport (c : Clp) (e : Event) : CabinFrame :=
  { kind := eventKind, tag := c.reportCount, payload := encNat 2 c.lost ++ encEvent e }

/-- An event report begins on the line: its record leaves the queue and the lost count becomes 0 (R150). -/
def sendEvent (e : Event) (rest : List Event) (s : State) : State :=
  s.onClp fun c =>
    { c with
      events := rest, lost := 0, reportCount := c.reportCount + 1
      tx := some { frame := eventReport c e, isReply := false } }

/-- A status report of a section begins on the line, and the section's copy is replaced (R151, R152). -/
def sendStatus (n : Fin 7) (s : State) : State :=
  s.onClp fun c =>
    { c with
      copies := updateAt c.copies n fun _ => some (copyOf n s)
      tx := some { frame := { kind := statusKind, tag := 0, payload := statusPayload n s }, isReply := false } }

/-- What the arbiter does while status is due (R152). -/
def sendDueStatus (s : State) : State :=
  match firstFlagged s with
  | some n => sendStatus n s
  | none => s.onClp fun c => { c with due := false }

/-- The transmit arbiter: while the transmitter is free, a reply, else an event report, else a due status report (R148). -/
def arbitrateCabin (s : State) : State :=
  if s.clp.tx.isSome then s
  else match s.clp.reply, s.clp.events with
    | some f, _ => sendReply f s
    | none, e :: rest => sendEvent e rest s
    | none, [] => if s.clp.due then sendDueStatus s else s

/-- Both transmit arbiters choose, as they do after every placing and at every end of a frame (R139, R148; log 2). The
rules give no order between the two links: that the Machine Line chooses first, so that a status report formed here shows
what its choice left, is a DESIGN CHOICE, unsafe (log 49). -/
def settle (s : State) : State := arbitrateCabin (arbitrateMachine s.mlp.queue.length s)

/-- The head of the receive queue, whose reply has been sent, leaves it, and the next frame is taken (R143). -/
def nextRequest (s : State) : State :=
  let left := s.onClp fun c => { c with rxQueue := c.rxQueue.tail }
  match left.clp.rxQueue with
  | [] => left
  | f :: _ => takeFrame f left

/-- The end of a frame on the Cabin Link (R143, R148); with the transmitter idle there is none (log 36). -/
def cabinFrameEnds (s : State) : State :=
  match s.clp.tx with
  | none => s
  | some t =>
    let free := s.onClp fun c => { c with tx := none }
    if t.isReply then nextRequest free else free

/-- The end of a frame on the Machine Line (R139). -/
def machineFrameEnds (s : State) : State := s.onMlp fun m => { m with tx := none }

/-! ## The port's timers (R21, R152) -/

/-- Expiry of the cabin silence timer (R21). -/
def cabinSilenceExpires (s : State) : State :=
  if isRunning s.clp.silenceTimer then
    queueEvent .hostSilent (postCabin (.rate 0) (s.onClp fun c => { c with silenceTimer := .stopped }))
  else s

/-- The pacing timer at its expiry, under the period in force (R152). -/
def pacingAfter (s : State) : Timer :=
  if s.cfb.link.statusPeriod = 0 then .stopped else startedTimer s s.cfb.link.statusPeriod

/-- Expiry of the status pacing timer (R152). -/
def pacingExpires (s : State) : State :=
  if isRunning s.clp.pacingTimer then
    s.onClp fun c => { c with pacingTimer := pacingAfter s, due := c.due || anyFlag s }
  else s

/-- Expiry of the face-invalid timer (R29, R16, R18). -/
def faceInvalidExpires (s : State) : State :=
  if isRunning s.fbu.invalidTimer then
    causeArrives .faceInvalid (s.onFbu fun f => { f with invalidTimer := .expired })
  else s

end Sys2Proof.Machine
end

