-- ==== Sys2Proof/Machine/ExecLink.lean ====
section
/-! DEFINITION. The meanings of the two resets, and of what happens on the Cabin Link beside the known requests (R1,
R142 to R144, R148, R153). -/

namespace Sys2Proof.Machine

/-- Every block at its reset values and the millisecond count at 0; a frame being sent on the Machine Line finishes on
the line (R140; log 8), and the commands that wait go on waiting (log 34). -/
def resetDevice (s : State) : State :=
  { State.reset with mlp := { Mlp.reset with tx := s.mlp.tx }, pending := s.pending }

/-- POWER ON RESET (R1). -/
def execPowerOnReset (s : State) : Host.Outcome State Fault Refusal := .next (resetDevice s)

/-- LINE RESET (R1). -/
def execLineReset (s : State) : Host.Outcome State Fault Refusal := .next (resetDevice s)

/-- CABIN FRAME RECEIVED: bytes taken off the line, and the frames that they complete (R142, R143). -/
def execCabinFrameReceived (bytes : List Byte) (s : State) : Host.Outcome State Fault Refusal :=
  .next (settle (cabinBytes bytes s))

/-- CABIN RX GAP: a gap inside a frame, and the bytes that follow it (R142). -/
def execCabinRxGap (after : List Byte) (s : State) : Host.Outcome State Fault Refusal :=
  .next (settle (cabinBytes after (cabinGap s)))

/-- UNKNOWN KIND: a whole frame whose kind the catalogue does not hold (R144). -/
def execUnknownKind (kind tag : Byte) (payload : List Byte) (s : State) : Host.Outcome State Fault Refusal :=
  .next (settle (receiveFrame { kind := kind, tag := tag, payload := payload } s))

/-- CABIN TX DONE: the frame on the line ends (R143, R148). -/
def execCabinTxDone (s : State) : Host.Outcome State Fault Refusal := .next (settle (cabinFrameEnds s))

end Sys2Proof.Machine
end

