-- ==== Sys2Proof/Machine/ExecNodes.lean ====
section
/-! DEFINITION. The meanings of the frames of the nodes and of what else happens on the Machine Line (R133 to R136,
R139). -/

namespace Sys2Proof.Machine

/-- A whole Machine Line frame arrives behind the receiver (R133), and both arbiters choose. -/
def nodeFrameArrives (kind address sequence : Byte) (payload : List Byte) (s : State) : State :=
  settle (machineFrame { kind := kind, address := address, sequence := sequence, payload := payload } s)

/-- FACE SAMPLE (R25). -/
def execFaceSample (address sequence : Byte) (payload : List Byte) (s : State) : Host.Outcome State Fault Refusal :=
  .next (nodeFrameArrives sampleKind address sequence payload s)

/-- CUTTER SAMPLE (R47). -/
def execCutterSample (address sequence : Byte) (payload : List Byte) (s : State) : Host.Outcome State Fault Refusal :=
  .next (nodeFrameArrives sampleKind address sequence payload s)

/-- SCREW SAMPLE (R42). -/
def execScrewSample (address sequence : Byte) (payload : List Byte) (s : State) : Host.Outcome State Fault Refusal :=
  .next (nodeFrameArrives sampleKind address sequence payload s)

/-- THRUST SAMPLE (R9). -/
def execThrustSample (address sequence : Byte) (payload : List Byte) (s : State) : Host.Outcome State Fault Refusal :=
  .next (nodeFrameArrives sampleKind address sequence payload s)

/-- ERECTOR SAMPLE (R69). -/
def execErectorSample (address sequence : Byte) (payload : List Byte) (s : State) : Host.Outcome State Fault Refusal :=
  .next (nodeFrameArrives sampleKind address sequence payload s)

/-- BELT SAMPLE (R105). -/
def execBeltSample (address sequence : Byte) (payload : List Byte) (s : State) : Host.Outcome State Fault Refusal :=
  .next (nodeFrameArrives sampleKind address sequence payload s)

/-- GROUT SAMPLE (R88). -/
def execGroutSample (address sequence : Byte) (payload : List Byte) (s : State) : Host.Outcome State Fault Refusal :=
  .next (nodeFrameArrives sampleKind address sequence payload s)

/-- SEAT REPORT (R71). -/
def execSeatReport (address sequence : Byte) (payload : List Byte) (s : State) : Host.Outcome State Fault Refusal :=
  .next (nodeFrameArrives reportKind address sequence payload s)

/-- DONE REPORT (R86). -/
def execDoneReport (address sequence : Byte) (payload : List Byte) (s : State) : Host.Outcome State Fault Refusal :=
  .next (nodeFrameArrives reportKind address sequence payload s)

/-- NODE OTHER FRAME: a frame of a known address whose kind is neither sample nor report (R133, R134, 9.7). -/
def execNodeOtherFrame (kind address sequence : Byte) (payload : List Byte) (s : State) : Host.Outcome State Fault Refusal :=
  .next (nodeFrameArrives kind address sequence payload s)

/-- UNKNOWN ADDRESS FRAME (R133). -/
def execUnknownAddressFrame (kind address sequence : Byte) (payload : List Byte) (s : State) : Host.Outcome State Fault Refusal :=
  .next (nodeFrameArrives kind address sequence payload s)

/-- MACHINE RX GAP: a gap inside a frame, and the bytes that follow it (R133, R142). -/
def execMachineRxGap (after : List Byte) (s : State) : Host.Outcome State Fault Refusal :=
  .next (settle (machineBytes after (machineGap s)))

/-- MACHINE FRAME DISCARDED: the bytes of a frame that the checks discard (R133, R142). -/
def execMachineFrameDiscarded (bytes : List Byte) (s : State) : Host.Outcome State Fault Refusal :=
  .next (settle (machineBytes bytes s))

/-- MACHINE TX DONE: the transmitter comes free (R139). -/
def execMachineTxDone (s : State) : Host.Outcome State Fault Refusal := .next (settle (machineFrameEnds s))

end Sys2Proof.Machine
end

