-- ==== Sys2Proof/Machine/ExecRequests.lean ====
section
/-! DEFINITION. The meanings of the 36 requests: each is the arrival of one whole request frame behind the receiver
(R143, R144, R146; log 1). -/

namespace Sys2Proof.Machine

/-- A whole request frame arrives (R143), and both arbiters choose. -/
def requestArrives (kind tag : Byte) (payload : List Byte) (s : State) : State :=
  settle (receiveFrame { kind := kind, tag := tag, payload := payload } s)

/-- STATUS (R147). -/
def execStatus (tag : Byte) (payload : List Byte) (s : State) : Host.Outcome State Fault Refusal :=
  .next (requestArrives 0x01 tag payload s)

/-- PING (R147). -/
def execPing (tag : Byte) (payload : List Byte) (s : State) : Host.Outcome State Fault Refusal :=
  .next (requestArrives 0x02 tag payload s)

/-- COMMISSION (R158). -/
def execCommission (tag : Byte) (payload : List Byte) (s : State) : Host.Outcome State Fault Refusal :=
  .next (requestArrives 0x03 tag payload s)

/-- RESTART (R22). -/
def execRestart (tag : Byte) (payload : List Byte) (s : State) : Host.Outcome State Fault Refusal :=
  .next (requestArrives 0x04 tag payload s)

/-- SET (R155). -/
def execSet (tag : Byte) (payload : List Byte) (s : State) : Host.Outcome State Fault Refusal :=
  .next (requestArrives 0x05 tag payload s)

/-- GET (R157). -/
def execGet (tag : Byte) (payload : List Byte) (s : State) : Host.Outcome State Fault Refusal :=
  .next (requestArrives 0x06 tag payload s)

/-- PLAN PUSH (R121). -/
def execPlanPush (tag : Byte) (payload : List Byte) (s : State) : Host.Outcome State Fault Refusal :=
  .next (requestArrives 0x07 tag payload s)

/-- PLAN DROP (R125). -/
def execPlanDrop (tag : Byte) (payload : List Byte) (s : State) : Host.Outcome State Fault Refusal :=
  .next (requestArrives 0x08 tag payload s)

/-- PLAN LIST (R125). -/
def execPlanList (tag : Byte) (payload : List Byte) (s : State) : Host.Outcome State Fault Refusal :=
  .next (requestArrives 0x09 tag payload s)

/-- START (R5). -/
def execStart (tag : Byte) (payload : List Byte) (s : State) : Host.Outcome State Fault Refusal :=
  .next (requestArrives 0x0A tag payload s)

/-- HOLD (R15). -/
def execHold (tag : Byte) (payload : List Byte) (s : State) : Host.Outcome State Fault Refusal :=
  .next (requestArrives 0x0B tag payload s)

/-- RELEASE (R15). -/
def execRelease (tag : Byte) (payload : List Byte) (s : State) : Host.Outcome State Fault Refusal :=
  .next (requestArrives 0x0C tag payload s)

/-- END STROKE (R11). -/
def execEndStroke (tag : Byte) (payload : List Byte) (s : State) : Host.Outcome State Fault Refusal :=
  .next (requestArrives 0x0D tag payload s)

/-- ENTER BUILD (R13). -/
def execEnterBuild (tag : Byte) (payload : List Byte) (s : State) : Host.Outcome State Fault Refusal :=
  .next (requestArrives 0x0E tag payload s)

/-- SAFE STOP (R16). -/
def execSafeStop (tag : Byte) (payload : List Byte) (s : State) : Host.Outcome State Fault Refusal :=
  .next (requestArrives 0x0F tag payload s)

/-- RESUME (R20). -/
def execResume (tag : Byte) (payload : List Byte) (s : State) : Host.Outcome State Fault Refusal :=
  .next (requestArrives 0x10 tag payload s)

/-- RETRACT (R66). -/
def execRetract (tag : Byte) (payload : List Byte) (s : State) : Host.Outcome State Fault Refusal :=
  .next (requestArrives 0x11 tag payload s)

/-- RESEAT (R67). -/
def execReseat (tag : Byte) (payload : List Byte) (s : State) : Host.Outcome State Fault Refusal :=
  .next (requestArrives 0x12 tag payload s)

/-- ACCEPT (R68). -/
def execAccept (tag : Byte) (payload : List Byte) (s : State) : Host.Outcome State Fault Refusal :=
  .next (requestArrives 0x13 tag payload s)

/-- SCREW MANUAL (R43). -/
def execScrewManual (tag : Byte) (payload : List Byte) (s : State) : Host.Outcome State Fault Refusal :=
  .next (requestArrives 0x14 tag payload s)

/-- SCREW AUTO (R44). -/
def execScrewAuto (tag : Byte) (payload : List Byte) (s : State) : Host.Outcome State Fault Refusal :=
  .next (requestArrives 0x15 tag payload s)

/-- FACE MODE (R37). -/
def execFaceMode (tag : Byte) (payload : List Byte) (s : State) : Host.Outcome State Fault Refusal :=
  .next (requestArrives 0x16 tag payload s)

/-- BIAS CLEAR (R32). -/
def execBiasClear (tag : Byte) (payload : List Byte) (s : State) : Host.Outcome State Fault Refusal :=
  .next (requestArrives 0x17 tag payload s)

/-- CUTTER MANUAL (R56). -/
def execCutterManual (tag : Byte) (payload : List Byte) (s : State) : Host.Outcome State Fault Refusal :=
  .next (requestArrives 0x18 tag payload s)

/-- CUTTER AUTO (R56). -/
def execCutterAuto (tag : Byte) (payload : List Byte) (s : State) : Host.Outcome State Fault Refusal :=
  .next (requestArrives 0x19 tag payload s)

/-- LINE PAUSE (R91). -/
def execLinePause (tag : Byte) (payload : List Byte) (s : State) : Host.Outcome State Fault Refusal :=
  .next (requestArrives 0x1A tag payload s)

/-- LINE CONTINUE (R92). -/
def execLineContinue (tag : Byte) (payload : List Byte) (s : State) : Host.Outcome State Fault Refusal :=
  .next (requestArrives 0x1B tag payload s)

/-- LINE CLEAR (R93). -/
def execLineClear (tag : Byte) (payload : List Byte) (s : State) : Host.Outcome State Fault Refusal :=
  .next (requestArrives 0x1C tag payload s)

/-- LINE TOPUP (R94). -/
def execLineTopup (tag : Byte) (payload : List Byte) (s : State) : Host.Outcome State Fault Refusal :=
  .next (requestArrives 0x1D tag payload s)

/-- LINE MODE (R95). -/
def execLineMode (tag : Byte) (payload : List Byte) (s : State) : Host.Outcome State Fault Refusal :=
  .next (requestArrives 0x1E tag payload s)

/-- FREEZE (R140). -/
def execFreeze (tag : Byte) (payload : List Byte) (s : State) : Host.Outcome State Fault Refusal :=
  .next (requestArrives 0x1F tag payload s)

/-- UNFREEZE (R140). -/
def execUnfreeze (tag : Byte) (payload : List Byte) (s : State) : Host.Outcome State Fault Refusal :=
  .next (requestArrives 0x20 tag payload s)

/-- RING READ (R131). -/
def execRingRead (tag : Byte) (payload : List Byte) (s : State) : Host.Outcome State Fault Refusal :=
  .next (requestArrives 0x21 tag payload s)

/-- SLICE READ (R116). -/
def execSliceRead (tag : Byte) (payload : List Byte) (s : State) : Host.Outcome State Fault Refusal :=
  .next (requestArrives 0x22 tag payload s)

/-- NODE READ (R141). -/
def execNodeRead (tag : Byte) (payload : List Byte) (s : State) : Host.Outcome State Fault Refusal :=
  .next (requestArrives 0x23 tag payload s)

/-- LINE READ (R147). -/
def execLineRead (tag : Byte) (payload : List Byte) (s : State) : Host.Outcome State Fault Refusal :=
  .next (requestArrives 0x24 tag payload s)

end Sys2Proof.Machine
end

