-- ==== Sys2Proof/Machine/ExecTimers.lean ====
section
/-! DEFINITION. The meanings of the timers' expiries. The expiry of a timer that is not running changes nothing
(log 4). -/

namespace Sys2Proof.Machine

/-- CABIN SILENCE EXPIRY (R21). -/
def execCabinSilenceExpiry (s : State) : Host.Outcome State Fault Refusal := .next (settle (cabinSilenceExpires s))

/-- STATUS PACING EXPIRY (R152). -/
def execStatusPacingExpiry (s : State) : Host.Outcome State Fault Refusal := .next (settle (pacingExpires s))

/-- FACE INVALID EXPIRY (R29). -/
def execFaceInvalidExpiry (s : State) : Host.Outcome State Fault Refusal := .next (settle (faceInvalidExpires s))

/-- START TIMER EXPIRY (R51). -/
def execStartTimerExpiry (s : State) : Host.Outcome State Fault Refusal := .next (settle (startTimerExpires s))

/-- MOVE TIMER EXPIRY (R61). -/
def execMoveTimerExpiry (group : Fin 7) (s : State) : Host.Outcome State Fault Refusal := .next (settle (moveTimerExpires group s))

/-- STROKE TIMER EXPIRY (R87). -/
def execStrokeTimerExpiry (line : Fin 6) (s : State) : Host.Outcome State Fault Refusal := .next (settle (strokeTimerExpires line s))

/-- PERIOD TIMER EXPIRY (R85). -/
def execPeriodTimerExpiry (line : Fin 6) (s : State) : Host.Outcome State Fault Refusal := .next (settle (periodTimerExpires line s))

/-- SILENCE TIMER EXPIRY (R135). -/
def execSilenceTimerExpiry (role : Role) (s : State) : Host.Outcome State Fault Refusal := .next (settle (silenceExpires role s))

/-- FREEZE TIMER EXPIRY (R140). -/
def execFreezeTimerExpiry (s : State) : Host.Outcome State Fault Refusal := .next (settle (freezeExpires s))

end Sys2Proof.Machine
end

