-- ==== Sys2Proof/Machine/Dispatch.lean ====
section
/-! DEFINITION. The dispatch of commands to their meanings. -/

namespace Sys2Proof.Machine

def exec (i : Instr) (s : State) : Host.Outcome State Fault Refusal :=
  match i with
  | .powerOnReset => Sys2Proof.Machine.execPowerOnReset s
  | .lineReset => Sys2Proof.Machine.execLineReset s
  | .cabinFrameReceived bytes => Sys2Proof.Machine.execCabinFrameReceived bytes s
  | .cabinRxGap after => Sys2Proof.Machine.execCabinRxGap after s
  | .unknownKind kind tag payload => Sys2Proof.Machine.execUnknownKind kind tag payload s
  | .status tag payload => Sys2Proof.Machine.execStatus tag payload s
  | .ping tag payload => Sys2Proof.Machine.execPing tag payload s
  | .commission tag payload => Sys2Proof.Machine.execCommission tag payload s
  | .restart tag payload => Sys2Proof.Machine.execRestart tag payload s
  | .set tag payload => Sys2Proof.Machine.execSet tag payload s
  | .get tag payload => Sys2Proof.Machine.execGet tag payload s
  | .planPush tag payload => Sys2Proof.Machine.execPlanPush tag payload s
  | .planDrop tag payload => Sys2Proof.Machine.execPlanDrop tag payload s
  | .planList tag payload => Sys2Proof.Machine.execPlanList tag payload s
  | .start tag payload => Sys2Proof.Machine.execStart tag payload s
  | .hold tag payload => Sys2Proof.Machine.execHold tag payload s
  | .release tag payload => Sys2Proof.Machine.execRelease tag payload s
  | .endStroke tag payload => Sys2Proof.Machine.execEndStroke tag payload s
  | .enterBuild tag payload => Sys2Proof.Machine.execEnterBuild tag payload s
  | .safeStop tag payload => Sys2Proof.Machine.execSafeStop tag payload s
  | .resume tag payload => Sys2Proof.Machine.execResume tag payload s
  | .retract tag payload => Sys2Proof.Machine.execRetract tag payload s
  | .reseat tag payload => Sys2Proof.Machine.execReseat tag payload s
  | .accept tag payload => Sys2Proof.Machine.execAccept tag payload s
  | .screwManual tag payload => Sys2Proof.Machine.execScrewManual tag payload s
  | .screwAuto tag payload => Sys2Proof.Machine.execScrewAuto tag payload s
  | .faceMode tag payload => Sys2Proof.Machine.execFaceMode tag payload s
  | .biasClear tag payload => Sys2Proof.Machine.execBiasClear tag payload s
  | .cutterManual tag payload => Sys2Proof.Machine.execCutterManual tag payload s
  | .cutterAuto tag payload => Sys2Proof.Machine.execCutterAuto tag payload s
  | .linePause tag payload => Sys2Proof.Machine.execLinePause tag payload s
  | .lineContinue tag payload => Sys2Proof.Machine.execLineContinue tag payload s
  | .lineClear tag payload => Sys2Proof.Machine.execLineClear tag payload s
  | .lineTopup tag payload => Sys2Proof.Machine.execLineTopup tag payload s
  | .lineMode tag payload => Sys2Proof.Machine.execLineMode tag payload s
  | .freeze tag payload => Sys2Proof.Machine.execFreeze tag payload s
  | .unfreeze tag payload => Sys2Proof.Machine.execUnfreeze tag payload s
  | .ringRead tag payload => Sys2Proof.Machine.execRingRead tag payload s
  | .sliceRead tag payload => Sys2Proof.Machine.execSliceRead tag payload s
  | .nodeRead tag payload => Sys2Proof.Machine.execNodeRead tag payload s
  | .lineRead tag payload => Sys2Proof.Machine.execLineRead tag payload s
  | .cabinTxDone => Sys2Proof.Machine.execCabinTxDone s
  | .cabinSilenceExpiry => Sys2Proof.Machine.execCabinSilenceExpiry s
  | .statusPacingExpiry => Sys2Proof.Machine.execStatusPacingExpiry s
  | .faceSample address sequence payload => Sys2Proof.Machine.execFaceSample address sequence payload s
  | .faceInvalidExpiry => Sys2Proof.Machine.execFaceInvalidExpiry s
  | .cutterSample address sequence payload => Sys2Proof.Machine.execCutterSample address sequence payload s
  | .startTimerExpiry => Sys2Proof.Machine.execStartTimerExpiry s
  | .screwSample address sequence payload => Sys2Proof.Machine.execScrewSample address sequence payload s
  | .thrustSample address sequence payload => Sys2Proof.Machine.execThrustSample address sequence payload s
  | .moveTimerExpiry group => Sys2Proof.Machine.execMoveTimerExpiry group s
  | .erectorSample address sequence payload => Sys2Proof.Machine.execErectorSample address sequence payload s
  | .seatReport address sequence payload => Sys2Proof.Machine.execSeatReport address sequence payload s
  | .beltSample address sequence payload => Sys2Proof.Machine.execBeltSample address sequence payload s
  | .groutSample address sequence payload => Sys2Proof.Machine.execGroutSample address sequence payload s
  | .doneReport address sequence payload => Sys2Proof.Machine.execDoneReport address sequence payload s
  | .strokeTimerExpiry line => Sys2Proof.Machine.execStrokeTimerExpiry line s
  | .periodTimerExpiry line => Sys2Proof.Machine.execPeriodTimerExpiry line s
  | .nodeOtherFrame kind address sequence payload => Sys2Proof.Machine.execNodeOtherFrame kind address sequence payload s
  | .machineRxGap after => Sys2Proof.Machine.execMachineRxGap after s
  | .silenceTimerExpiry role => Sys2Proof.Machine.execSilenceTimerExpiry role s
  | .machineTxDone => Sys2Proof.Machine.execMachineTxDone s
  | .freezeTimerExpiry => Sys2Proof.Machine.execFreezeTimerExpiry s
  | .unknownAddressFrame kind address sequence payload => Sys2Proof.Machine.execUnknownAddressFrame kind address sequence payload s
  | .machineFrameDiscarded bytes => Sys2Proof.Machine.execMachineFrameDiscarded bytes s

end Sys2Proof.Machine
end

