-- ==== Sys2Proof/Machine/Timers.lean ====
section
/-! DEFINITION. The millisecond tick: what the device does while no command waits (00_scope.md 4.2; logs 3 and 5). -/

namespace Sys2Proof.Machine

/-- Whether a running timer's duration has passed. -/
def timerDue (now : Stamp) : Timer → Bool
  | .running start d => decide (d ≤ elapsed now start)
  | _ => false

/-- Every timer of the device with the command that is its expiry (R21, R29, R51, R61, R84, R85, R135, R140, R152). -/
def allTimers (s : State) : List (Timer × Instr) :=
  [(s.clp.silenceTimer, .cabinSilenceExpiry), (s.clp.pacingTimer, .statusPacingExpiry),
   (s.fbu.invalidTimer, .faceInvalidExpiry), (s.chm.startTimer, .startTimerExpiry),
   (s.mlp.freezeTimer, .freezeTimerExpiry)] ++
    (allGroups.map fun g => (s.abu.groups[g].moveTimer, .moveTimerExpiry g)) ++
    (allLines.map fun l => (s.gru.lines[l].strokeTimer, .strokeTimerExpiry l)) ++
    (allLines.map fun l => (s.gru.lines[l].periodTimer, .periodTimerExpiry l)) ++
    allRoles.map fun r => ((nodeOf s r).silenceTimer, .silenceTimerExpiry r)

/-- The expiries that are due, in a free order (log 5). -/
def dueExpiries (s : State) : List Instr :=
  (sortByKey (fun x => Config.expiryRank s.ms x.1)
    ((allTimers s).zipIdx.filterMap fun x => if timerDue s.ms x.1.1 then some (x.2, x.1.2) else none)).map Prod.snd

/-- One millisecond passes: the count rises by one, and the expiries then due join the queue. -/
def tick (s : State) : State :=
  let later := { s with ms := s.ms + 1 }
  { later with pending := later.pending ++ dueExpiries later }

end Sys2Proof.Machine
end

