-- ==== Sys2Proof/Safety.lean ====
section
/-! DEFINITION. The laws of the device: what holds of its state between any two commands, in the words that the statements
use. Each is kept by every step. -/

namespace Sys2Proof.Machine

/-! ## Transmitters and queues -/

/-- No transmitter stands idle while its arbiter has something to send (R139, R148). -/
abbrev Settled (s : State) : Prop :=
  (s.mlp.tx.isSome ∨ chooseItem s.mlp.frozen s.mlp.queue = none) ∧
    (s.clp.tx.isSome ∨ (s.clp.reply = none ∧ s.clp.events = [] ∧ s.clp.due = false))

/-- The keys of the waiting command items. -/
def queuedKeys (s : State) : List ItemKey := s.mlp.queue.map fun i => keyOf i.command

/-- The command queue holds no two items of one key (R137). -/
abbrev KeysOnce (s : State) : Prop := (queuedKeys s).Nodup

/-- Each queue holds at most what the manual gives it (R104, R121, R126, R137, R143, R149). -/
abbrev QueueBounds (s : State) : Prop :=
  s.clp.rxQueue.length ≤ 4 ∧ s.clp.events.length ≤ 32 ∧ KeysOnce s ∧ s.mlp.queue.length ≤ 18 ∧
    s.mbu.slices.length ≤ 32 ∧ s.rru.queue.length ≤ 8 ∧ s.rru.records.length ≤ 16

/-- Requests are taken one at a time: a reply, waiting or on the line, belongs to the head of the receive queue (R143,
R148). -/
abbrev OneRequest (s : State) : Prop :=
  (s.clp.reply.isSome ∨ s.clp.tx.any CabinTx.isReply → s.clp.rxQueue ≠ []) ∧
    (s.clp.rxQueue ≠ [] → s.clp.reply.isSome ∨ s.clp.tx.any CabinTx.isReply) ∧
    (s.clp.reply.isSome → s.clp.tx.any CabinTx.isReply = false)

/-! ## The rate -/

/-- The effective rate, the held indicator and the rate command sent are those of R6 to R8. -/
abbrev RateLaw (s : State) : Prop :=
  s.abu.effective = leastCap s.abu.caps ∧ s.abu.held = heldIndicator s.abu.phase s.abu.caps ∧
    s.abu.rateSent = rateCommand s.abu.phase s.abu.effective

/-! ## The cycle, the plans and the records -/

/-- The phase of the cycle, or in HALTED the phase to be resumed. -/
def cyclePhase (s : State) : Phase := s.abu.resumePhase.getD s.abu.phase

/-- Whether a ring is being bored or built in a phase. -/
def ringOpenIn : Phase → Bool
  | .boring | .strokeEnd | .building | .buildSuspended => true
  | .unconfigured | .idle | .ready | .halted => false

/-- HALTED, and only HALTED, holds a resume phase and a halt cause; the resume phase is another phase (R1, R16, R20). -/
abbrev HaltLaw (s : State) : Prop :=
  (s.abu.phase = .halted ↔ s.abu.resumePhase.isSome) ∧ (s.abu.phase = .halted ↔ s.abu.haltCause.isSome) ∧
    s.abu.resumePhase ≠ some .halted

/-- A plan is active exactly from READY to closure; IDLE has no plan waiting; the PLAN entry is the active plan's rate
(R3, R14, R123). -/
abbrev PlanLaw (s : State) : Prop :=
  (s.rru.active.isSome ↔ cyclePhase s = .ready ∨ ringOpenIn (cyclePhase s)) ∧
    (s.abu.phase = .idle → s.rru.queue = []) ∧ s.abu.caps.plan = planRate s.rru.active

/-- Whether ring numbers follow one another, beginning after a number when one is given. -/
def consecutiveFrom : Option Nat → List Nat → Bool
  | _, [] => true
  | none, n :: ns => consecutiveFrom (some n) ns
  | some m, n :: ns => n == m + 1 && consecutiveFrom (some n) ns

/-- The ring numbers of the records, then the active plan's unless its record is open, then those of the queue. -/
def ringNumbers (s : State) : List Nat :=
  s.rru.records.map (fun r => r.plan.ring) ++
    (if ringOpenIn (cyclePhase s) then [] else (s.rru.active.map fun p => p.plan.ring).toList) ++
    s.rru.queue.map Plan.ring

/-- The laws of the plan queue and of the ring table: consecutive ring numbers from the oldest record to the newest plan
(R119, R126). -/
abbrev NumberingLaw (s : State) : Prop := consecutiveFrom none (ringNumbers s) = true

/-- Only the newest record is OPEN, and it is OPEN exactly while its ring is bored or built (R126, R127). -/
abbrev OpenLaw (s : State) : Prop :=
  (∀ r ∈ s.rru.records.dropLast, r.status ≠ .opened) ∧
    (s.rru.records.getLast?.any (fun r => r.status == .opened) = ringOpenIn (cyclePhase s)) ∧
    (ringOpenIn (cyclePhase s) = true →
      s.rru.records.getLast?.map (fun r => r.plan.ring) = s.rru.active.map fun p => p.plan.ring)

/-- The law of completeness: a record is COMPLETE only with its three parts final; OPEN only without its build part
(R129). -/
abbrev CompleteLaw (s : State) : Prop :=
  ∀ r ∈ s.rru.records,
    (r.status = .complete → r.buildFinal ∧ r.groutFinal ∧ r.muckFinal) ∧
      (r.status = .closed → r.buildFinal ∧ ¬(r.groutFinal ∧ r.muckFinal)) ∧ (r.status = .opened → r.buildFinal = false)

/-! ## The thrust groups -/

/-- Whether a group order item of a group waits in the command queue. -/
def orderWaits (s : State) (g : Fin 7) : Bool := s.mlp.queue.any fun i => keyOf i.command == .groupOrder g

/-- Whether a RETRACT of a group waits in the command queue, whatever trim it carries. -/
def retractWaits (s : State) (g : Fin 7) : Bool :=
  s.mlp.queue.any fun i => match i.command with
    | .groupOrder k .retract _ => k == g
    | _ => false

/-- The order queued flag says whether a group order item waits (R58). -/
abbrev OrderLaw (s : State) : Prop := ∀ g : Fin 7, (groupOf s g).orderQueued = orderWaits s g

/-- The law of locks: a locked group is neither withdrawn nor has a RETRACT waiting (R72). -/
abbrev LockLaw (s : State) : Prop :=
  ∀ g : Fin 7, (groupOf s g).lock = true →
    (groupOf s g).state ≠ .retracting ∧ (groupOf s g).state ≠ .retracted ∧ retractWaits s g = false

/-- What must hold of a group for its RETRACT to leave the device (R66). -/
abbrev MayWithdraw (s : State) (g : Fin 7) : Prop :=
  s.fbu.valid = true ∧
    (allGroups.filter fun k => k != g && (groupOf s k).state != .holding).length < s.cfb.thrust.maxRetracted ∧
    ∀ p ∈ s.fbu.pw, requiredForce s p ≤ holdingForceWithout s g

/-- In a build the expected sector is the one that R63 gives, and no other sector is OFFSET (R63). -/
abbrev SeatingLaw (s : State) : Prop :=
  (cyclePhase s = .building ∨ cyclePhase s = .buildSuspended) →
    s.abu.expected = expectedSector s ∧ ∀ k : Fin 7, (sectorOf s k).state = .offset → s.abu.expected = some k

/-- The law of withdrawal while the order waits (R66): the phase is BUILDING, the group is on its way out over the
expected sector, and the order could leave the device now. -/
abbrev WithdrawalLaw (s : State) : Prop :=
  ∀ g : Fin 7, retractWaits s g = true →
    s.abu.phase = .building ∧ s.abu.expected = some g ∧
      ((groupOf s g).state = .retracting ∨ (groupOf s g).state = .retracted) ∧ MayWithdraw s g

/-! ## The grout lines -/

/-- The law of shares: each line's effective share is that of R97, and with all lines BLOCKED the GROUT entry is 0. -/
abbrev ShareLaw (s : State) : Prop :=
  (∀ l : Fin 6, (lineOf s l).state = .blocked → (lineOf s l).share = 0) ∧
    (if allBlocked s then s.abu.caps.grout = .rate 0
     else (allLines.map fun l => (lineOf s l).share).sum = 1000)

/-- The law of the accumulator (R82). -/
abbrev AccumulatorLaw (s : State) : Prop := ∀ l : Fin 6, (lineOf s l).acc ≤ 4 * s.cfb.grout.strokeMl * 1000000

/-- Whether a STROKE of a line waits in the command queue. -/
def strokeWaits (s : State) (l : Fin 6) : Bool :=
  s.mlp.queue.any fun i => match i.command with
    | .pumpOrder k (some _) => k == l
    | _ => false

/-- A stroke in flight is unsent exactly while its STROKE waits, and only a sent one has a running timer; a line is
BLOCKED exactly while it has a cause (R81, R83, R84, R90). -/
abbrev StrokeLaw (s : State) : Prop :=
  ∀ l : Fin 6,
    (strokeWaits s l = (lineOf s l).stroke.any fun k => !k.sent) ∧
      (isRunning (lineOf s l).strokeTimer = true → (lineOf s l).stroke.any (fun k => k.sent) = true) ∧
      ((lineOf s l).state = .blocked ↔ (lineOf s l).cause.isSome)

/-- The finishing list: earlier rings, each with the strokes of it in flight (R80, R100). -/
abbrev FinishingLaw (s : State) : Prop :=
  (s.gru.finishing.map Finishing.ring).Nodup ∧
    ∀ e ∈ s.gru.finishing, s.gru.groutRing ≠ some e.ring ∧ 0 < e.inFlight ∧ e.inFlight = strokesInFlight s e.ring

/-- The greatest ring number that has a record; none when the table is empty (R126). -/
def newestRecorded (s : State) : Option Nat := s.rru.records.getLast?.map fun r => r.plan.ring

/-- A ring number is not later than the newest record's, and the table holds a record. -/
abbrev NotBeyondRecords (s : State) (ring : Nat) : Prop := ∃ newest ∈ newestRecorded s, ring ≤ newest

/-- No account names a ring later than the newest record, or any ring while the table is empty: the grout ring, the
finishing list, the strokes in flight, the stroke ring, the slices (R5, R100, R107, R127). -/
abbrev AccountLaw (s : State) : Prop :=
  (∀ r ∈ s.gru.groutRing, NotBeyondRecords s r) ∧ (∀ e ∈ s.gru.finishing, NotBeyondRecords s e.ring) ∧
    (∀ l : Fin 6, ∀ k ∈ (lineOf s l).stroke, ∀ r ∈ k.ring, NotBeyondRecords s r) ∧
    (∀ r ∈ s.mbu.strokeRing, NotBeyondRecords s r) ∧ ∀ x ∈ s.mbu.slices, NotBeyondRecords s x.ring

/-! ## Slices, bias and settings -/

/-- At most one slice is OPEN, it is the newest, and it alone has a close point and no theoretical mass; a slice has a
verdict exactly when it is FINAL (R104). -/
abbrev SliceLaw (s : State) : Prop :=
  (∀ x ∈ s.mbu.slices.dropLast, x.state ≠ .opened) ∧
    ∀ x ∈ s.mbu.slices,
      (x.state = .opened ↔ x.closePoint.isSome) ∧ (x.state = .opened ↔ x.theoretical = none) ∧
        (x.state = .final ↔ x.verdict.isSome)

/-- The bias lies from 0 to bias_max (R32). -/
abbrev BiasLaw (s : State) : Prop := s.fbu.bias ≤ s.cfb.face.biasMax

/-- Whether a stored value lies in its item's range; 0 marks dc, ds and the addresses unset (R154). -/
def inItemRange (c : Cfb) (i : SettingItem) : Bool :=
  match getSetting c i with
  | none => true
  | some v =>
    match i with
    | .aFace | .vVoid => true
    | .dc | .ds | .address _ => v == 0 || (decide ((settingRange i).1 ≤ v) && decide (v ≤ (settingRange i).2))
    | .statusPeriod => v == 0 || v == 50 || v == 100 || v == 200 || v == 500 || v == 1000
    | _ => decide ((settingRange i).1 ≤ v) && decide (v ≤ (settingRange i).2)

/-- The items of every group. -/
def allItems : List SettingItem := [0, 1, 2, 3, 4, 5, 6, 7].flatMap groupItems

/-- Every setting holds a value within its range, and the paired settings stand as R45, R57, R98 and R102 pair them
(R154). -/
abbrev SettingsLaw (s : State) : Prop :=
  allItems.all (inItemRange s.cfb) = true ∧ s.cfb.grout.baseShares.toList.sum = 1000 ∧
    s.cfb.face.screwMin ≤ s.cfb.face.screwMax ∧ s.cfb.cutter.torqueDerate < s.cfb.cutter.torqueTrip ∧
    s.cfb.grout.pResume < s.cfb.grout.pMax ∧ s.cfb.grout.pMax < s.cfb.grout.pBurst ∧
    s.cfb.grout.lagWarn < s.cfb.grout.lagStop ∧ s.cfb.geometry.ringWidth % 50 = 0 ∧ s.cfb.geometry.clearance % 50 = 0

end Sys2Proof.Machine
end

