-- ==== Sys2Proof/Safety/Effects.lean ====
section
/-! DEFINITION. The words of the statements: what a command leaves in each block before the transmit arbiters choose.
In each, `s` is the state before the command and `u` the state that `settle` is then applied to. -/

namespace Sys2Proof.Machine

/-! ## Requests and replies (R143, R144, R146) -/

/-- The frame of a command that is the arrival of a request frame; the kinds are those of R146. -/
def requestFrame : Instr → Option CabinFrame
  | .unknownKind kind tag payload => some { kind := kind, tag := tag, payload := payload }
  | .status tag payload => some { kind := 0x01, tag := tag, payload := payload }
  | .ping tag payload => some { kind := 0x02, tag := tag, payload := payload }
  | .commission tag payload => some { kind := 0x03, tag := tag, payload := payload }
  | .restart tag payload => some { kind := 0x04, tag := tag, payload := payload }
  | .set tag payload => some { kind := 0x05, tag := tag, payload := payload }
  | .get tag payload => some { kind := 0x06, tag := tag, payload := payload }
  | .planPush tag payload => some { kind := 0x07, tag := tag, payload := payload }
  | .planDrop tag payload => some { kind := 0x08, tag := tag, payload := payload }
  | .planList tag payload => some { kind := 0x09, tag := tag, payload := payload }
  | .start tag payload => some { kind := 0x0A, tag := tag, payload := payload }
  | .hold tag payload => some { kind := 0x0B, tag := tag, payload := payload }
  | .release tag payload => some { kind := 0x0C, tag := tag, payload := payload }
  | .endStroke tag payload => some { kind := 0x0D, tag := tag, payload := payload }
  | .enterBuild tag payload => some { kind := 0x0E, tag := tag, payload := payload }
  | .safeStop tag payload => some { kind := 0x0F, tag := tag, payload := payload }
  | .resume tag payload => some { kind := 0x10, tag := tag, payload := payload }
  | .retract tag payload => some { kind := 0x11, tag := tag, payload := payload }
  | .reseat tag payload => some { kind := 0x12, tag := tag, payload := payload }
  | .accept tag payload => some { kind := 0x13, tag := tag, payload := payload }
  | .screwManual tag payload => some { kind := 0x14, tag := tag, payload := payload }
  | .screwAuto tag payload => some { kind := 0x15, tag := tag, payload := payload }
  | .faceMode tag payload => some { kind := 0x16, tag := tag, payload := payload }
  | .biasClear tag payload => some { kind := 0x17, tag := tag, payload := payload }
  | .cutterManual tag payload => some { kind := 0x18, tag := tag, payload := payload }
  | .cutterAuto tag payload => some { kind := 0x19, tag := tag, payload := payload }
  | .linePause tag payload => some { kind := 0x1A, tag := tag, payload := payload }
  | .lineContinue tag payload => some { kind := 0x1B, tag := tag, payload := payload }
  | .lineClear tag payload => some { kind := 0x1C, tag := tag, payload := payload }
  | .lineTopup tag payload => some { kind := 0x1D, tag := tag, payload := payload }
  | .lineMode tag payload => some { kind := 0x1E, tag := tag, payload := payload }
  | .freeze tag payload => some { kind := 0x1F, tag := tag, payload := payload }
  | .unfreeze tag payload => some { kind := 0x20, tag := tag, payload := payload }
  | .ringRead tag payload => some { kind := 0x21, tag := tag, payload := payload }
  | .sliceRead tag payload => some { kind := 0x22, tag := tag, payload := payload }
  | .nodeRead tag payload => some { kind := 0x23, tag := tag, payload := payload }
  | .lineRead tag payload => some { kind := 0x24, tag := tag, payload := payload }
  | _ => none

/-- Whether a payload length is one that R146 allows for a kind. -/
def lengthAllowed (kind n : Nat) : Bool :=
  if kind = 0x02 then decide (n ≤ 247)
  else if kind = 0x05 then n == 6 || n == 14
  else if kind = 0x07 then n == 38
  else if kind = 0x1E then n == 6
  else if kind ∈ [0x06, 0x14, 0x18, 0x1D, 0x21] then n == 2
  else if kind ∈ [0x01, 0x11, 0x12, 0x13, 0x16, 0x1A, 0x1B, 0x1C, 0x22, 0x23, 0x24] then n == 1
  else n == 0

/-- The reply frame to a request (R144). -/
def replyTo (f : CabinFrame) (a : Answer) : CabinFrame :=
  { kind := f.kind + 0x80, tag := f.tag, payload := resultByte a.code :: a.rest }

/-- The Cabin Link Port after a request that found the receive queue empty: the frame is its head, the cabin silence timer
has restarted, the reply waits (R21, R143, R144, R148). -/
def answeredClp (f : CabinFrame) (a : Answer) (s : State) : Clp :=
  { s.clp with
    rxQueue := [f]
    silenceTimer := .running s.ms s.cfb.link.cabinSilence
    reply := some (replyTo f a) }

/-- The state after a request that changes nothing but the Cabin Link Port. -/
def answeredOnly (f : CabinFrame) (a : Answer) (s : State) : State := { s with clp := answeredClp f a s }

/-- The state after a frame that the port answers itself: the silence timer does not restart (R21, R144). -/
def turnedAway (f r : CabinFrame) (s : State) : State := { s with clp := { s.clp with rxQueue := [f], reply := some r } }

/-! ## Notices of transmission (R60, R84, R139) -/

/-- The ABU after an item leaves the device: a group order is no longer queued (R60). -/
def noticedAbu (c : Command) (s : State) : Abu :=
  match c with
  | .groupOrder g _ _ => { s.abu with groups := s.abu.groups.set g { groupOf s g with orderQueued := false } }
  | _ => s.abu

/-- The GRU after an item leaves the device: a stroke order's stroke is sent and its timer starts (R84). -/
def noticedGru (c : Command) (s : State) : Gru :=
  match c with
  | .pumpOrder l (some _) =>
    { s.gru with
      lines := s.gru.lines.set l
        { lineOf s l with
          stroke := (lineOf s l).stroke.map fun k => { k with sent := true }
          strokeTimer :=
            if (lineOf s l).stroke.isSome then .running s.ms s.cfb.grout.strokeMaxMs else (lineOf s l).strokeTimer } }
  | _ => s.gru

/-! ## Placings -/

/-- An event waits in the event queue (R149). -/
abbrev EventWaits (b : EventBody) (u : State) : Prop := ∃ e ∈ u.clp.events, e.body = b ∧ e.stamp = u.ms

/-- The Cabin Link Port after one event that carries a ring number is placed (R149). -/
def withEvent (b : EventBody) (ring : Nat) (now : Stamp) (c : Clp) : Clp :=
  if c.events.length < 32 then { c with events := c.events ++ [{ body := b, ring := ring, stamp := now }] }
  else
    { c with events := c.events.tail ++ [{ body := b, ring := ring, stamp := now }], lost := min 65535 (c.lost + 1) }

/-- The number of the newest record, 0 when the table is empty (R149). -/
def newestNumber (s : State) : Nat := (s.rru.records.getLast?.map fun r => r.plan.ring).getD 0

/-- A command item waits in the command queue (R137). -/
abbrev ItemWaits (c : Command) (u : State) : Prop := ∃ i ∈ u.mlp.queue, i.command = c

/-- The command queue after an item that differs from what was sent, and the queue as it was after one that does not. -/
def queueAfter (changed : Bool) (c : Command) (s : State) : Mlp :=
  if changed then { s.mlp with queue := placedQueue c s.mlp.queue } else s.mlp

/-- The records after one hold is counted in the OPEN one (R8). -/
def heldRecords (s : State) : List RingRecord :=
  s.rru.records.map fun r =>
    if r.status = .opened ∧ r.buildFinal = false then
      { r with advance := { r.advance with holds := min 255 (r.advance.holds + 1) } }
    else r

/-! ## The rate cap table (R6 to R8, R15) -/

/-- The ABU after a new rate cap table: effective rate, held indicator and command sent follow (R6 to R8). -/
def abuWithCaps (c : Caps) (a : Abu) : Abu :=
  { a with
    caps := c, effective := leastCap c, held := heldIndicator a.phase c, rateSent := rateCommand a.phase (leastCap c) }

/-- What one new rate cap table brings about in every block but the CLP (R6 to R8). -/
abbrev CapsPosted (c : Caps) (s u : State) : Prop :=
  u.abu = abuWithCaps c s.abu ∧
    u.mlp =
      queueAfter (rateCommand s.abu.phase (leastCap c) != s.abu.rateSent)
        (.advanceRate (rateCommand s.abu.phase (leastCap c))) s ∧
    u.rru.records =
      (if s.abu.phase = .boring ∧ 0 < s.abu.effective ∧ leastCap c = 0 then heldRecords s else s.rru.records) ∧
    u.rru.queue = s.rru.queue ∧ u.rru.active = s.rru.active ∧ u.rru.exhausted = s.rru.exhausted ∧ u.fbu = s.fbu ∧
    u.chm = s.chm ∧ u.gru = s.gru ∧ u.mbu = s.mbu ∧ u.cfb = s.cfb ∧ u.ms = s.ms ∧ u.pending = s.pending

/-! ## The cycle -/

/-- The speed and the direction of a cutterhead started under a plan at START (R49, R50). -/
def startSpeed (p : ActivePlan) (s : State) : Nat :=
  if s.chm.mode = .manual then s.chm.manualSpeed else p.plan.cutterSpeed

/-- The direction that R50 chooses. -/
def startDirection (p : ActivePlan) (s : State) : Direction :=
  match p.plan.direction, s.chm.roll with
  | .cw, _ => .cw
  | .ccw, _ => .ccw
  | .auto, none => s.chm.direction
  | .auto, some r =>
    if (s.cfb.cutter.rollMin : Int) ≤ r then .cw
    else if r ≤ -(s.cfb.cutter.rollMin : Int) then .ccw
    else s.chm.direction

/-- The conditions of R4 in READY. -/
abbrev MayStart (s : State) : Prop :=
  (nodeOf s .face).state = .live ∧ (nodeOf s .cutter).state = .live ∧ (nodeOf s .screw).state = .live ∧
    (nodeOf s .thrust).state = .live ∧ s.fbu.valid = true ∧ (∀ g : Fin 7, (groupOf s g).state = .holding) ∧
    (s.rru.records.length < 16 ∨ s.rru.records.head?.any (fun r => r.status == .complete) = true)

/-- START taken (R5) under plan `p` at advance position `a`: the ABU. -/
abbrev StrokeOpened (p : ActivePlan) (a : Int) (s u : State) : Prop :=
  u.abu.phase = .boring ∧ u.abu.strokeStart = a ∧
    u.abu.strokeTarget = a + ((s.cfb.geometry.ringWidth + s.cfb.geometry.clearance : Nat) : Int) ∧
    u.abu.advanceRef = s.abu.advanceRef ∧ u.abu.caps.cabin = .noLimit ∧ u.abu.caps.cutter = .rate 0 ∧
    u.abu.caps.plan = s.abu.caps.plan ∧ u.abu.caps.face = s.abu.caps.face ∧ u.abu.effective = 0 ∧ u.abu.rateSent = 0 ∧
    u.abu.held = firstZero u.abu.caps ∧ u.abu.buildOrder = s.abu.buildOrder ∧ u.abu.expected = s.abu.expected ∧
    u.abu.sectors = s.abu.sectors ∧ u.abu.suspensions = s.abu.suspensions ∧
    ∀ g : Fin 7,
      groupOf u g =
          { groupOf s g with state := .pushing, lock := false, orderQueued := true, moveTimer := .stopped } ∧
        ItemWaits (.groupOrder g .push (p.plan.trims.getD g.val 0)) u

/-- START taken (R5): the CHM and the FBU. -/
abbrev DriveStarted (p : ActivePlan) (s u : State) : Prop :=
  u.chm =
      { s.chm with
        state := .starting, direction := startDirection p s, speedSent := startSpeed p s, band := none
        startTimer := .running s.ms s.cfb.cutter.startMs } ∧
    ItemWaits (.driveOrder .run (startSpeed p s) (startDirection p s)) u ∧
    u.fbu = { s.fbu with gateSent := .open, screwSent := u.fbu.screwSent } ∧
    (s.fbu.gateSent = .open ∨ ItemWaits (.screwGate .open) u)

/-- A slice after its closing at its present length under a plan, as it stands when it is not OPEN (R107, R110; log 24). -/
def closedUnder (p : ActivePlan) (s : State) (x : Slice) : Slice :=
  if x.state = .opened then
    { x with
      closePoint := none
      theoretical :=
        some
          ((s.cfb.aFace.getD 0 * x.length * p.plan.density + 500000000) / 1000000000 +
            p.plan.additive * x.length / 1000)
      state := if x.bStart ≤ s.mbu.belt ∧ 0 < x.measured then .arriving else .travelling }
  else x

/-- A slice of a ring opened under an index at a stroke advance (R107). -/
def sliceOpenedAt (ring index advance : Nat) (s : State) : Slice :=
  { ring := ring, index := index, advanceStart := advance, length := 0
    closePoint := some (advance / s.cfb.muck.sliceLen * s.cfb.muck.sliceLen + s.cfb.muck.sliceLen)
    bStart := s.mbu.belt + s.cfb.muck.beltLag, theoretical := none, measured := 0, state := .opened, verdict := none }

/-- A slice can be opened: the queue holds fewer than 32, or a FINAL one to retire (R108). -/
abbrev SliceRoom (s : State) : Prop := s.mbu.slices.length < 32 ∨ ∃ x ∈ s.mbu.slices, x.state = .final

/-- The slices with the OPEN one closed and a new one opened, the oldest FINAL one retired when they are 32 (R107, R108). -/
def slicesWith (p : ActivePlan) (new : Slice) (s : State) (xs : List Slice) : List Slice :=
  (if xs.length < 32 then xs else xs.eraseP fun x => decide (x.state = .final)).map (closedUnder p s) ++ [new]

/-- START taken (R5 step 8, R107, R108): the MBU, with the first slice, or its opening waiting. -/
abbrev FirstSliceOpened (p : ActivePlan) (s u : State) : Prop :=
  (SliceRoom s →
    u.mbu =
        { s.mbu with
          strokeRing := some p.plan.ring, inProgress := true, strokeAdvance := 0, nextIndex := 1
          slices := slicesWith p (sliceOpenedAt p.plan.ring 0 0 s) s s.mbu.slices } ∧
      u.abu.caps.muck = s.abu.caps.muck) ∧
    (¬SliceRoom s →
      u.mbu =
          { s.mbu with
            strokeRing := some p.plan.ring, inProgress := true, strokeAdvance := 0, nextIndex := 0
            openingPending := true } ∧
        u.abu.caps.muck = .rate 0 ∧ EventWaits .muckQueueFull u)

/-- The number of strokes in flight that carry a ring's number (R81, R100). -/
def strokesCarrying (s : State) (ring : Nat) : Nat :=
  (allLines.filter fun l => decide (∃ k ∈ (lineOf s l).stroke, k.ring = some ring)).length

/-- A record after its ring's grout part is finished with a demand in nl and a delivered volume in ml: unless the part was
final before it takes the demand and the deficit and is final, and a CLOSED record thereby whole is COMPLETE (R100,
R129). -/
def groutFinished (demand delivered : Nat) (r : RingRecord) : RingRecord :=
  if r.groutFinal = true then r
  else
    { r with
      grout :=
        { r.grout with
          demandMl := demand / 1000000, deficit := ((demand / 1000000 : Nat) : Int) - (delivered : Int) }
      groutFinal := true
      groutCut := false
      status := if r.status = .closed ∧ r.buildFinal = true ∧ r.muckFinal = true then .complete else r.status }

/-- The grout ring held before a START is finished at it: none of its strokes is in flight (R100). -/
abbrev FinishedAtStart (s : State) (ring : Nat) : Prop := s.gru.groutRing = some ring ∧ strokesCarrying s ring = 0

/-- The finishing list after a START: the grout ring held before joins it while strokes of it are in flight (R100). -/
def finishingAtStart (s : State) : List Finishing :=
  match s.gru.groutRing with
  | none => s.gru.finishing
  | some g =>
    if strokesCarrying s g = 0 then s.gru.finishing
    else
      s.gru.finishing ++
        [{ ring := g, demand := s.gru.demand, delivered := s.gru.delivered, inFlight := strokesCarrying s g }]

/-- The earlier records after a START: that of a grout ring finished at it, and the oldest of 16 dropped (R5, R100,
R127). -/
def recordsAtStart (s : State) : List RingRecord :=
  (if s.rru.records.length < 16 then s.rru.records else s.rru.records.tail).map fun r =>
    if FinishedAtStart s r.plan.ring then groutFinished s.gru.demand s.gru.delivered r else r

/-- All six lines are BLOCKED (R99). -/
abbrev AllLinesBlocked (s : State) : Prop := ∀ l : Fin 6, (lineOf s l).state = .blocked

/-- A line after START (R85, R96): IDLE lines run, the modes and the period are taken over, the ring figures are 0, and a
line made RUNNING in FREE mode starts its period timer. -/
abbrev LineStarted (l : Fin 6) (s u : State) : Prop :=
  (lineOf u l).state = (if (lineOf s l).state = .idle then .running else (lineOf s l).state) ∧
    (lineOf u l).mode = startMode s l ∧ (lineOf u l).pendingMode = startMode s l ∧
    (lineOf u l).period = (lineOf s l).pendingPeriod ∧ (lineOf u l).pendingPeriod = (lineOf s l).pendingPeriod ∧
    (lineOf u l).ringStrokes = 0 ∧ (lineOf u l).ringVolume = 0 ∧
    ((lineOf s l).state = .idle → startMode s l = .free →
      (lineOf u l).periodTimer = .running s.ms (lineOf s l).pendingPeriod) ∧
    ((lineOf s l).periodTimer = .stopped → (lineOf s l).state ≠ .idle ∨ startMode s l = .locked →
      (lineOf s l).state ≠ .running → (lineOf u l).periodTimer = .stopped)

/-- START taken (R5, R96, R99, R100, R127): the grout ring held before, the GRU, and the records. -/
abbrev AccountsOpened (p : ActivePlan) (a : Int) (s u : State) : Prop :=
  u.gru =
      { lines := u.gru.lines, groutRing := some p.plan.ring, demand := 0, delivered := 0
        band := if AllLinesBlocked s then s.gru.band else .none
        finishing := finishingAtStart s
        unattributed := s.gru.unattributed
        haltPosted := decide (AllLinesBlocked s) } ∧
    u.abu.caps.grout = (if AllLinesBlocked s then .rate 0 else .noLimit) ∧
    (AllLinesBlocked s → s.gru.haltPosted = false → EventWaits .groutHalt u) ∧ (∀ l : Fin 6, LineStarted l s u) ∧
    ((s.rru.records.map fun r => r.plan.ring).Nodup →
      u.rru.records.dropLast = recordsAtStart s ∧
        ∀ r ∈ s.rru.records,
          FinishedAtStart s r.plan.ring → r.groutFinal = false → r.status = .closed → r.buildFinal = true →
            r.muckFinal = true → EventWaits (.ringComplete r.plan.ring) u) ∧
    u.rru.records.getLast? =
      some
        { openedRecord p with
          advance := { strokeStart := a, length := 0, holds := 0, safeStops := 0 }
          cutter := { maxTorque := none, direction := startDirection p s } } ∧
    u.rru.records.length = min 16 (s.rru.records.length + 1) ∧ u.rru.queue = s.rru.queue ∧ u.rru.active = s.rru.active

/-- A command leaves the settings, the millisecond count, the commands that wait, and all of the Machine Line Port but
its queue as they were. -/
abbrev OutsideKept (s u : State) : Prop :=
  u.cfb = s.cfb ∧ u.ms = s.ms ∧ u.pending = s.pending ∧ u.mlp = { s.mlp with queue := u.mlp.queue }

/-- The Cabin Link Port after a request that found the receive queue empty and placed events. -/
abbrev Answered (f : CabinFrame) (a : Answer) (s u : State) : Prop :=
  u.clp = { answeredClp f a s with events := u.clp.events, lost := u.clp.lost }

/-- The stroke ended at a length (R12): the ABU and the record. -/
abbrev StrokeClosed (length : Int) (s u : State) : Prop :=
  u.abu.phase = .strokeEnd ∧ u.abu.rateSent = 0 ∧ u.abu.held = none ∧ u.abu.strokeStart = s.abu.strokeStart ∧
    u.abu.strokeTarget = s.abu.strokeTarget ∧ u.abu.sectors = s.abu.sectors ∧ u.abu.buildOrder = s.abu.buildOrder ∧
    (∀ g : Fin 7,
      groupOf u g =
        if (groupOf s g).state = .pushing then
          { groupOf s g with state := .holding, orderQueued := true, moveTimer := .stopped }
        else groupOf s g) ∧
    EventWaits (.strokeEnded length) u ∧
    (∀ r ∈ u.rru.records, r.status = .opened → r.buildFinal = false → r.advance.length = length) ∧
    u.rru.queue = s.rru.queue ∧ u.rru.active = s.rru.active

/-- The state with its HOLDING groups PUSHING, as RESUME into BORING orders them (R20, R62). -/
def pushedAgain (s : State) : State :=
  { s with
    abu := { s.abu with
      groups := s.abu.groups.map fun g => if g.state = .holding then { g with state := .pushing } else g } }

/-- The slices when a stroke ends under a plan: the OPEN one closed with its actual length, or withdrawn when its length is
0 (R109 step 2). -/
def slicesEnded (p : ActivePlan) (s : State) : List Slice :=
  (s.mbu.slices.filter fun x => !decide (x.state = .opened ∧ x.length = 0)).map (closedUnder p s)

/-- No slice of the stroke ring is left that is other than FINAL, when a stroke ends under a plan (R109 step 5). -/
abbrev StrokeJudged (p : ActivePlan) (s : State) : Prop :=
  ∀ x ∈ slicesEnded p s, s.mbu.strokeRing = some x.ring → x.state = .final

/-- The stroke ended under a plan (R109, R110, R114): the slices; those of a ring whose muck part is thereby written
leave, and its part is final. -/
abbrev SlicesRested (p : ActivePlan) (s u : State) : Prop :=
  (¬StrokeJudged p s → u.mbu.slices = slicesEnded p s) ∧
    (StrokeJudged p s →
      (u.mbu.slices = (slicesEnded p s).filter fun x => !decide (s.mbu.strokeRing = some x.ring)) ∧
        ((s.rru.records.map fun r => r.plan.ring).Nodup →
          ∀ r ∈ u.rru.records, s.mbu.strokeRing = some r.plan.ring → r.muckFinal = true))

/-- The MUCK entry that the MBU posts while no opening waits (R113). -/
def muckEntryOf (s : State) : Cap :=
  if (nodeOf s .belt).state = .silent ∨ (nodeOf s .belt).state = .fault then .rate 0
  else if s.mbu.overdig = .active then .rate (s.abu.caps.plan / 2)
  else .noLimit

/-- The stroke ended (R12, R41, R55, R96, R109): the job blocks. -/
abbrev JobsRested (s u : State) : Prop :=
  u.chm =
      (if s.chm.state = .starting ∨ s.chm.state = .running then
        { s.chm with state := .stopping, speedSent := 0, startTimer := .stopped }
      else s.chm) ∧
    u.fbu = { s.fbu with manual := 0, screwSent := 0, gateSent := .closed } ∧
    (∀ l : Fin 6, (lineOf u l).state = if (lineOf s l).state = .running then .idle else (lineOf s l).state) ∧
    u.gru.groutRing = s.gru.groutRing ∧ u.gru.demand = s.gru.demand ∧ u.gru.delivered = s.gru.delivered ∧
    u.mbu =
      { s.mbu with
        inProgress := false
        openingPending := false
        tail := some { position := s.mbu.belt + s.cfb.muck.beltLag, ring := s.mbu.strokeRing }
        slices := u.mbu.slices } ∧
    u.abu.caps.muck = (if s.mbu.openingPending = true then muckEntryOf s else s.abu.caps.muck) ∧
    (∀ x ∈ u.mbu.slices, x.state ≠ .opened) ∧ ∀ p ∈ s.rru.active, SlicesRested p s u

/-- ENTER BUILD taken (R13, R63, R64) under key sector `k`. -/
abbrev BuildEntered (k : Fin 7) (s u : State) : Prop :=
  u.abu =
      { s.abu with
        phase := .building, buildOrder := some #v[k + 3, k + 4, k + 2, k + 5, k + 1, k + 6, k]
        expected := some (k + 3), suspensions := 0
        sectors := Vector.replicate 7 { state := .empty, gap := none, reseats := 0 } } ∧
    ItemWaits (.nextSector (some (k + 3))) u ∧ u.chm = s.chm ∧ u.mbu = s.mbu ∧ u.rru = s.rru ∧
    u.fbu = { s.fbu with screwSent := u.fbu.screwSent } ∧
    (∀ l : Fin 6, (lineOf u l).state = (lineOf s l).state) ∧ u.gru.groutRing = s.gru.groutRing

/-! ## Safe stop (R16 to R18, R138, R140) -/

/-- The order that a safe stop gives a group in a state (R17, R60, R62). -/
def safeStopOrder (g : Group) : Option GroupOrder :=
  if g.state = .pushing then some .hold
  else if g.state = .retracted then some .recover
  else if g.state = .retracting ∧ g.orderQueued = true then some .hold
  else none

/-- A group after a safe stop at time `now` (R60 to R62). -/
def stoppedGroup (now : Stamp) (g : Group) : Group :=
  if g.state = .pushing ∨ (g.state = .retracting ∧ g.orderQueued = true) then
    { g with state := .holding, orderQueued := true, moveTimer := .stopped }
  else if g.state = .retracted then
    { g with state := .recovering, orderQueued := true, moveTimer := .running now 60000 }
  else if g.state = .retracting then { g with recoverPending := true }
  else g

/-- The rate cap table after an entry into HALTED: a turning cutterhead posts 0 (R17, R55). -/
def haltedCaps (s : State) : Caps :=
  if s.chm.state = .starting ∨ s.chm.state = .running then { s.abu.caps with cutter := .rate 0 } else s.abu.caps

/-- Entry into HALTED for a cause (R16, R17): the ABU. -/
abbrev HaltEntered (c : HaltCause) (s u : State) : Prop :=
  u.abu =
    { s.abu with
      phase := .halted, resumePhase := some s.abu.phase, haltCause := some c, furtherCauses := 0, rateSent := 0
      held := none, caps := haltedCaps s, effective := leastCap (haltedCaps s)
      groups := Vector.ofFn fun g : Fin 7 => stoppedGroup s.ms (groupOf s g) }

/-- The group orders of a safe stop: first the PUSHING groups, then the RETRACTED, then those withdrawn (R17; log 30). -/
def safeStopOrders (s : State) : List Command :=
  [GroupState.pushing, .retracted, .retracting].flatMap fun st =>
    allGroups.filterMap fun g =>
      if (groupOf s g).state = st then (safeStopOrder (groupOf s g)).map fun o => .groupOrder g o 0 else none

/-- The safe-stop items in the order of R17. -/
def safeStopItems (s : State) : List Command :=
  [.advanceRate 0, .driveOrder .stop 0 s.chm.direction, .screwSpeed 0, .screwGate .closed] ++ safeStopOrders s

/-- The safe-stop items of state `s` enter the queue: at its head with the safety mark, with no waiting item of their keys
left; the freeze is cleared (R17, R138, R140). -/
abbrev SafeItemsPlaced (s u : State) : Prop :=
  u.mlp =
    { s.mlp with
      queue :=
        (safeStopItems s).map (fun c => { command := c, safety := true }) ++
          s.mlp.queue.filter fun i => (safeStopItems s).all fun c => keyOf c != keyOf i.command
      frozen := false
      freezeTimer := .stopped }

/-- The Cabin Link Port after SAFE_STOP is queued, with FREEZE_ENDED when a freeze was in force (R16, R18, R140). -/
def haltTold (c : HaltCause) (p : Phase) (s : State) (x : Clp) : Clp :=
  if s.mlp.frozen then
    withEvent (.freezeEnded true) (newestNumber s) s.ms (withEvent (.safeStop c p) (newestNumber s) s.ms x)
  else withEvent (.safeStop c p) (newestNumber s) s.ms x

/-- Entry into HALTED (R17, R40, R41, R55): the job blocks. -/
abbrev JobsHalted (s u : State) : Prop :=
  u.chm =
      (if s.chm.state = .starting ∨ s.chm.state = .running then
        { s.chm with state := .stopping, speedSent := 0, startTimer := .stopped }
      else s.chm) ∧
    u.fbu = { s.fbu with manual := 0, screwSent := 0, gateSent := .closed } ∧ u.gru = s.gru ∧ u.mbu = s.mbu ∧
    u.rru =
      { s.rru with
        records := s.rru.records.map fun r =>
          if r.status = .opened ∧ r.buildFinal = false then
            { r with advance := { r.advance with safeStops := min 255 (r.advance.safeStops + 1) } }
          else r } ∧
    u.cfb = s.cfb ∧ u.ms = s.ms ∧ u.pending = s.pending

/-! ## RESTART (R22, R101, R115) -/

/-- What the GRU holds of a ring: its demand in nl and what was delivered in ml, of the grout ring or of a finishing ring
(R80). -/
def groutAccount (s : State) (ring : Nat) : Option (Nat × Nat) :=
  if s.gru.groutRing = some ring then some (s.gru.demand, s.gru.delivered)
  else (s.gru.finishing.find? fun e => decide (e.ring = ring)).map fun e => (e.demand, e.delivered)

/-- Whether a ring has a slice in the queue. -/
def hasSlice (s : State) (ring : Nat) : Bool := s.mbu.slices.any fun x => decide (x.ring = ring)

/-- A record after RESTART: the grout part of a ring with an account and the muck part of a ring with a slice are final
with CUT, unless they were final before; a CLOSED record with its three parts final is COMPLETE (R101, R115, R129). -/
def cutRecord (s : State) (r : RingRecord) : RingRecord :=
  let grouted : RingRecord :=
    match r.groutFinal, groutAccount s r.plan.ring with
    | false, some (demand, delivered) =>
      { r with
        grout :=
          { r.grout with
            demandMl := demand / 1000000, deficit := ((demand / 1000000 : Nat) : Int) - (delivered : Int) }
        groutFinal := true, groutCut := true }
    | _, _ => r
  let mucked : RingRecord :=
    if r.muckFinal = false ∧ hasSlice s r.plan.ring = true then { grouted with muckFinal := true, muckCut := true }
    else grouted
  if mucked.status = .closed ∧ mucked.buildFinal = true ∧ mucked.groutFinal = true ∧ mucked.muckFinal = true then
    { mucked with status := .complete }
  else mucked

/-! ## SET (R155, R45, R57, R102) -/

/-- A value clamped to a range: as it was written within the range, an end beyond it. -/
abbrev ClampedTo (low high written stored : Int) : Prop :=
  (low ≤ written → written ≤ high → stored = written) ∧ (written < low → stored = low) ∧
    (high < written → stored = high)

/-- A value lies in a range. -/
abbrev InRange (low high written : Int) : Prop := low ≤ written ∧ written ≤ high

/-- The listed status periods (11.3, R155). -/
def listedPeriods : List Int := [0, 50, 100, 200, 500, 1000]

/-- What a SET stores for a value written to an item of one value, from the first case that names the item: 0 for an unset
diameter or address, a multiple of 50 mm, a listed period, the bound of a paired setting in force; the range alone for
every other item (R155, R45, R57, R102). -/
abbrev StoredFor (c : Cfb) (i : SettingItem) (written stored : Int) : Prop :=
  let low := (settingRange i).1
  let high := (settingRange i).2
  if (i = .dc ∨ i = .ds ∨ ∃ r ∈ allRoles, i = .address r) ∧ written = 0 then stored = 0
  else if i = .ringWidth ∨ i = .clearance then
    (low ≤ written → written ≤ high → stored % 50 = 0 ∧ stored ≤ written ∧ written < stored + 50) ∧
      (written < low → stored = low) ∧ (high < written → stored = high)
  else if i = .statusPeriod then
    stored ∈ listedPeriods ∧ (written ≤ 0 → stored = 0) ∧ (1000 < written → stored = 1000) ∧
      (0 < written → written ≤ 1000 → written ≤ stored ∧ ∀ x ∈ listedPeriods, written ≤ x → stored ≤ x)
  else if i = .leapThreshold then stored = min (max low (min high written)) c.face.lowLimit
  else if i = .screwMin then stored = min (max low (min high written)) c.face.screwMax
  else if i = .screwMax then stored = max (max low (min high written)) c.face.screwMin
  else if i = .torqueDerate then stored = min (max low (min high written)) (c.cutter.torqueTrip - 1)
  else if i = .torqueTrip then stored = max (max low (min high written)) (c.cutter.torqueDerate + 1)
  else if i = .pResume then stored = min (max low (min high written)) (c.grout.pMax - 1)
  else if i = .pMax then
    stored = min (max (max low (min high written)) (c.grout.pResume + 1)) (c.grout.pBurst - 1)
  else if i = .pBurst then stored = max (max low (min high written)) (c.grout.pMax + 1)
  else if i = .lagWarn then stored = min (max low (min high written)) (c.grout.lagStop - 1)
  else if i = .lagStop then stored = max (max low (min high written)) (c.grout.lagWarn + 1)
  else ClampedTo low high written stored

/-- A share written in a payload of six 2-byte values, clamped to 1000 and scaled to a sum of 1000, rounded down (R98). -/
def scaledShare (v : List Byte) (l : Nat) : Nat :=
  min 1000 (natAt v (2 * l) 2) * 1000 / ((List.range 6).map fun k => min 1000 (natAt v (2 * k) 2)).sum

/-- Every item but one, the derived values and the base shares with them, holds what it held. -/
abbrev OtherItemsKept (i : SettingItem) (s u : State) : Prop :=
  (∀ j ∈ allItems, j ≠ i → getSetting u.cfb j = getSetting s.cfb j) ∧
    (i ≠ .baseShares → u.cfb.grout.baseShares = s.cfb.grout.baseShares)

/-! ## Resumption, commissioning and plans -/

/-- The reason byte of the first check of R19 that fails at a RESUME into a phase. -/
def resumeFailure (p : Phase) (s : State) : Option Nat :=
  if (∃ r ∈ allRoles, s.abu.haltCause = some (.node r)) ∧
      ((nodeOf s .face).state ≠ .live ∨ (nodeOf s .cutter).state ≠ .live ∨ (nodeOf s .screw).state ≠ .live ∨
        (nodeOf s .thrust).state ≠ .live) then some 10
  else if s.abu.haltCause = some .faceInvalid ∧ s.fbu.valid = false then some 10
  else if p ≠ .boring ∧ p ≠ .strokeEnd ∧ p ≠ .building ∧ p ≠ .buildSuspended then none
  else if (nodeOf s .face).state ≠ .live then some 1
  else if (nodeOf s .cutter).state ≠ .live then some 2
  else if (nodeOf s .screw).state ≠ .live then some 3
  else if (nodeOf s .thrust).state ≠ .live then some 4
  else if s.fbu.valid = false then some 5
  else none

/-- The first two checks of R158 pass. -/
abbrev DiametersFit (s : State) : Prop :=
  s.cfb.geometry.dc ≠ 0 ∧ s.cfb.geometry.ds ≠ 0 ∧ s.cfb.geometry.ds < s.cfb.geometry.dc ∧
    s.cfb.geometry.dc - s.cfb.geometry.ds ≤ 600

/-- A_face of the settings in force, in mm² (R159). -/
def areaOf (s : State) : Nat := (s.cfb.geometry.dc * s.cfb.geometry.dc * 785398163 + 500000000) / 1000000000

/-- V_void of the settings in force, in ml per mm (R159). -/
def voidOf (s : State) : Nat :=
  ((s.cfb.geometry.dc * s.cfb.geometry.dc - s.cfb.geometry.ds * s.cfb.geometry.ds) * 785398163 + 500000000000) /
    1000000000000

/-- A pushed plan replaces the active one (R122). -/
abbrev MayReplace (q : Plan) (s : State) : Prop :=
  s.abu.phase = .ready ∧ ∃ p ∈ s.rru.active, p.repeated = true ∧ p.plan.ring = q.ring

/-- The ring numbers of the records, the active plan and the queue, in that order. -/
def numbersHeld (s : State) : List Nat :=
  s.rru.records.map (fun r => r.plan.ring) ++ (s.rru.active.map fun p => p.plan.ring).toList ++ s.rru.queue.map Plan.ring

/-- The number that the expected one follows: that of the newest plan in the queue, else of the active plan, else of the
newest record; 0 when there is none (R120). -/
def lastNumber (s : State) : Nat := (numbersHeld s).getLast?.getD 0

/-- A pushed plan carries the expected ring number (R120). -/
abbrev MayFollow (q : Plan) (s : State) : Prop := numbersHeld s = [] ∨ q.ring = lastNumber s + 1

/-! ## Withdrawal and closure -/

/-- F_req in kN at a pressure: P_w × A_face × hold_margin / 10^9, rounded up (R65). -/
def holdingNeed (pw : Nat) (s : State) : Nat :=
  (pw * s.cfb.aFace.getD 0 * s.cfb.thrust.holdMargin + 999999999) / 1000000000

/-- The force in kN of the HOLDING groups other than one (R66). -/
def othersForce (g : Fin 7) (s : State) : Nat :=
  (allGroups.filter fun k => k != g && (groupOf s k).state == .holding).length * s.cfb.thrust.groupForce

/-- The number of groups that are not HOLDING (R66). -/
def groupsOut (s : State) : Nat := (allGroups.filter fun k => (groupOf s k).state != .holding).length

/-- Rows 6 to 8 of R66 pass. -/
abbrev WithdrawalHolds (s : State) (g : Fin 7) : Prop :=
  s.fbu.valid = true ∧ groupsOut s < s.cfb.thrust.maxRetracted ∧ s.fbu.pw.isSome = true ∧
    holdingNeed (s.fbu.pw.getD 0) s ≤ othersForce g s

/-- The refusal of a RETRACT or RESEAT at rows 3 to 8 of its table, `fits` being row 4 (R66, R67). -/
def withdrawalAnswer (fits : Bool) (s : State) (g : Fin 7) : Option Answer :=
  if (groupOf s g).lock = true then some (bare .refusedLocked)
  else if fits = false then some (bare .refusedOrder)
  else if (groupOf s g).state ≠ .holding then some (bare .refusedState)
  else if s.fbu.valid = false ∨ s.fbu.pw = none then
    some { code := .refusedHolding, rest := [5] ++ encNat 4 0 ++ encNat 4 (othersForce g s) }
  else if s.cfb.thrust.maxRetracted ≤ groupsOut s then
    some
      { code := .refusedHolding
        rest := [12] ++ encNat 4 (holdingNeed (s.fbu.pw.getD 0) s) ++ encNat 4 (othersForce g s) }
  else if othersForce g s < holdingNeed (s.fbu.pw.getD 0) s then
    some
      { code := .refusedHolding
        rest := [13] ++ encNat 4 (holdingNeed (s.fbu.pw.getD 0) s) ++ encNat 4 (othersForce g s) }
  else none

/-- The state after a group is ordered to RETRACT (R60, R61, R66). -/
def withdrawn (g : Fin 7) (s : State) : State :=
  { s with
    abu := { s.abu with
      groups := s.abu.groups.set g
        { groupOf s g with state := .retracting, orderQueued := true, moveTimer := .running s.ms 60000 } }
    mlp := queueAfter true (.groupOrder g .retract 0) s }

/-- The plan that a closure makes active (R124). -/
def planAfter (p : ActivePlan) (s : State) : Option ActivePlan :=
  match s.rru.queue with
  | q :: _ => some { plan := q, repeated := false }
  | [] => if p.plan.ring < 65535 then some { plan := { p.plan with ring := p.plan.ring + 1 }, repeated := true } else none

/-- A ring bored under plan `p` with the OPEN record `r` closes with the given sector table (R76, R77, R124, R129). -/
abbrev RingClosed (p : ActivePlan) (r : RingRecord) (sectors : Vector Sector 7) (s u : State) : Prop :=
  u.abu.phase = (if (planAfter p s).isSome then .ready else .idle) ∧ u.abu.expected = none ∧ u.abu.sectors = sectors ∧
    u.abu.buildOrder = s.abu.buildOrder ∧ u.abu.suspensions = s.abu.suspensions ∧
    u.abu.caps = { s.abu.caps with plan := planRate (planAfter p s), muck := u.abu.caps.muck } ∧
    u.rru =
      { queue := s.rru.queue.tail
        active := planAfter p s
        exhausted := if s.rru.queue ≠ [] then false else if p.plan.ring < 65535 then s.rru.exhausted else true
        records :=
          s.rru.records.dropLast ++
            [{ r with
                status := if r.groutFinal = true ∧ r.muckFinal = true then .complete else .closed
                buildFinal := true
                build := { sectors := sectors, suspensions := s.abu.suspensions }
                face := { r.face with bias := some s.fbu.bias } }] } ∧
    EventWaits (.ringClosed r.plan.ring) u ∧
    (r.groutFinal = true → r.muckFinal = true → EventWaits (.ringComplete r.plan.ring) u) ∧
    (s.rru.queue = [] → EventWaits (if p.plan.ring < 65535 then .planRepeated (p.plan.ring + 1) else .planExhausted) u) ∧
    u.chm = s.chm ∧ u.mbu = s.mbu ∧ u.fbu = { s.fbu with screwSent := u.fbu.screwSent } ∧
    u.gru = { s.gru with lines := u.gru.lines } ∧ ∀ l : Fin 6, (lineOf u l).state = (lineOf s l).state

/-! ## Screw, cutterhead and lines -/

/-- S_base of the v held (R38). -/
def feedForward (s : State) : Nat := (s.fbu.v * s.cfb.face.kFf + 500) / 1000

/-- The screw command in MANUAL under a manual value (R39 rows 1 and 2). -/
def manualCommand (manual : Nat) (s : State) : Nat :=
  if s.abu.phase = .halted then 0 else min s.cfb.face.screwMax manual

/-- The screw command in AUTO under a trim, with S_min at most S_max (R39 rows 1 and 3 to 5). -/
def autoCommand (trim : Int) (s : State) : Nat :=
  if s.abu.phase ≠ .boring ∨ s.fbu.faceClass = some .low then 0
  else (max (s.cfb.face.screwMin : Int) (min (s.cfb.face.screwMax : Int) (feedForward s + trim))).toNat

/-- The cutterhead is STARTING or RUNNING. -/
abbrev CutterTurns (s : State) : Prop := s.chm.state = .starting ∨ s.chm.state = .running

/-- The active plan's cutter speed, 0 with none (R49). -/
def planSpeed (s : State) : Nat := (s.rru.active.map fun p => p.plan.cutterSpeed).getD 0

/-- The first row of R83 that a line's record satisfies: the kind of the stroke and what the row takes (P_max as of the
line's latest sample, log 48). -/
def issuing (s : State) (l : Fin 6) : Option (StrokeKind × Line) :=
  if 0 < (lineOf s l).topUp ∧
      ((lineOf s l).state = .running ∨
        ((lineOf s l).state = .idle ∧ (lineOf s l).pressure.all fun p => decide (p ≤ (lineOf s l).pMaxInForce))) then
    some (.grout, { lineOf s l with topUp := (lineOf s l).topUp - 1 })
  else if (lineOf s l).state = .running ∧ (lineOf s l).mode = .locked ∧
      s.cfb.grout.strokeMl * 1000000 ≤ (lineOf s l).acc then
    some (.grout, { lineOf s l with acc := (lineOf s l).acc - s.cfb.grout.strokeMl * 1000000 })
  else if (lineOf s l).state = .running ∧ (lineOf s l).mode = .free ∧ (lineOf s l).periodTimer = .expired then
    some (.grout, lineOf s l)
  else if (lineOf s l).state = .flushing ∧ 0 < (lineOf s l).flush then
    some (.water, { lineOf s l with flush := (lineOf s l).flush - 1 })
  else none

/-! ## Frames of a LIVE node (R133 to R136) -/

/-- A frame that a LIVE node's entry accepts without a change of state: known address, new sequence number, fault flag
clear, echo matching (R133, R134). -/
abbrev HeardWell (s : State) (r : Role) (f : MachineFrame) : Prop :=
  roleOfAddress s f.address = some r ∧ (nodeOf s r).lastSequence ≠ some f.sequence ∧ (nodeOf s r).state = .live ∧
    frameJudged (nodeOf s r) r f = (false, true)

/-- The sequence numbers skipped since the last accepted frame (R133). -/
def skippedBefore (n : Node) (sequence : Byte) : Nat :=
  match n.lastSequence with
  | none => 0
  | some l => if 1 < (sequence - l).toNat then (sequence - l).toNat - 1 else 0

/-- A LIVE node's entry after it accepts a frame (R133, R134). -/
def heardNode (s : State) (r : Role) (sequence : Byte) : Node :=
  { nodeOf s r with
    lastSequence := some sequence
    received := min 4294967295 ((nodeOf s r).received + 1)
    missed := min 4294967295 ((nodeOf s r).missed + skippedBefore (nodeOf s r) sequence)
    mismatchRun := 0
    lastArrival := some s.ms
    silenceTimer := .running s.ms (timeoutOf s r) }

/-- The Machine Line Port after a LIVE node's entry accepts a frame. -/
def heardMlp (s : State) (r : Role) (sequence : Byte) : Mlp :=
  { s.mlp with nodes := s.mlp.nodes.set (roleIndex r) (heardNode s r sequence) }

/-- The state after a frame that changes nothing but its node's entry. -/
def heardOnly (s : State) (r : Role) (sequence : Byte) : State := { s with mlp := heardMlp s r sequence }

/-! ## Frames of any node (R133 to R136) -/

/-- The frame of a command that is the arrival of a node frame (9.7). -/
def nodeFrame : Instr → Option MachineFrame
  | .faceSample a n p | .cutterSample a n p | .screwSample a n p | .thrustSample a n p | .erectorSample a n p
  | .beltSample a n p | .groutSample a n p => some { kind := 0x01, address := a, sequence := n, payload := p }
  | .seatReport a n p | .doneReport a n p => some { kind := 0x02, address := a, sequence := n, payload := p }
  | .nodeOtherFrame k a n p | .unknownAddressFrame k a n p =>
    some { kind := k, address := a, sequence := n, payload := p }
  | _ => none

/-- A source address belongs to a role: the first in role order whose entry holds it; 0 to none (R133). -/
abbrev TakenFor (s : State) (r : Role) (address : Byte) : Prop :=
  address ≠ 0 ∧ addressOf s r = address.toNat ∧
    ∀ x ∈ allRoles, (roleIndex x).val < (roleIndex r).val → addressOf s x ≠ address.toNat

/-- The state of a node after an accepted frame (R134). -/
def stateHeard (n : Node) (fault echoes : Bool) : NodeState :=
  if fault = true then .fault
  else if n.state = .fault ∧ echoes = false then .fault
  else if n.state = .live ∧ echoes = false ∧ 2 ≤ n.mismatchRun then .fault
  else .live

/-- The echo mismatch run after an accepted frame (R134). -/
def runHeard (n : Node) (fault echoes : Bool) : Nat :=
  if n.state = .live ∧ fault = false ∧ echoes = false ∧ n.mismatchRun < 2 then n.mismatchRun + 1 else 0

/-- The event of an accepted frame (R134). -/
def eventHeard (r : Role) (n : Node) (fault echoes : Bool) : Option EventBody :=
  if n.state ≠ .fault ∧ stateHeard n fault echoes = .fault then some (.nodeFault r (!fault))
  else if (n.state = .silent ∨ n.state = .fault) ∧ stateHeard n fault echoes = .live then some (.nodeBack r n.state)
  else none

/-- A node's entry after an accepted frame (R133, R134). -/
def entryHeard (s : State) (r : Role) (f : MachineFrame) : Node :=
  { nodeOf s r with
    state := stateHeard (nodeOf s r) (frameJudged (nodeOf s r) r f).1 (frameJudged (nodeOf s r) r f).2
    lastSequence := some f.sequence
    received := min 4294967295 ((nodeOf s r).received + 1)
    missed :=
      min 4294967295
        ((nodeOf s r).missed +
          if (nodeOf s r).state = .live ∨ (nodeOf s r).state = .fault then skippedBefore (nodeOf s r) f.sequence else 0)
    mismatchRun := runHeard (nodeOf s r) (frameJudged (nodeOf s r) r f).1 (frameJudged (nodeOf s r) r f).2
    lastArrival := some s.ms
    silenceTimer := .running s.ms (timeoutOf s r) }

/-- The Cabin Link Port after at most one event without a ring number of its own (R149). -/
def toldClp (e : Option EventBody) (s : State) : Clp :=
  match e with
  | none => s.clp
  | some b => withEvent b (newestNumber s) s.ms s.clp

/-- The state after an accepted frame has set its node's entry and queued its event (R133, R134). -/
def heardState (s : State) (r : Role) (f : MachineFrame) : State :=
  { s with
    mlp := { s.mlp with nodes := s.mlp.nodes.set (roleIndex r) (entryHeard s r f) }
    clp := toldClp
      (eventHeard r (nodeOf s r) (frameJudged (nodeOf s r) r f).1 (frameJudged (nodeOf s r) r f).2) s }

/-- The state after a node is made SILENT (R135). -/
def silentState (s : State) (r : Role) : State :=
  { s with
    mlp := { s.mlp with
      nodes := s.mlp.nodes.set (roleIndex r)
        { nodeOf s r with state := .silent, mismatchRun := 0, silenceTimer := .expired } }
    clp := toldClp (some (.nodeSilent r)) s }

/-- The four essential roles (spec/00_scope.md section 5). -/
def essentialRoles : List Role := [.face, .cutter, .screw, .thrust]

/-- The phases in which a lost essential node and an expired face lead to safe stop (R16). -/
abbrev InStrokeOrBuild (s : State) : Prop :=
  s.abu.phase = .boring ∨ s.abu.phase = .strokeEnd ∨ s.abu.phase = .building ∨ s.abu.phase = .buildSuspended

/-- A safe-stop cause in HALTED: counted and told, nothing else (R18). -/
def causeCounted (c : HaltCause) (s : State) : State :=
  { s with
    abu := { s.abu with furtherCauses := min 255 (s.abu.furtherCauses + 1) }
    clp := toldClp (some (.safeStop c .halted)) s }

/-! ## Face evaluations (R25 to R36) -/

/-- A cell of a FACE sample is valid (R26). -/
abbrev CellReads (s : State) (p : List Byte) (i : Fin 5) : Prop :=
  flagAt p (3 * i.val + 2) = false ∧ 1 ≤ natAt p (3 * i.val) 2 ∧ natAt p (3 * i.val) 2 ≤ 999 ∧
    s.cfb.geometry.cellMask / 2 ^ i.val % 2 = 0

/-- γ × h / 1000 of a cell, rounded with a half away from zero (R27). -/
def axisCorrection (s : State) (i : Fin 5) : Int :=
  if 0 ≤ s.cfb.geometry.cellHeight[i] then ((s.cfb.face.gamma : Int) * s.cfb.geometry.cellHeight[i] + 500) / 1000
  else -((-((s.cfb.face.gamma : Int) * s.cfb.geometry.cellHeight[i]) + 500) / 1000)

/-- The corrected value of a cell of a FACE sample (R27). -/
def axisPressure (s : State) (p : List Byte) (i : Fin 5) : Nat :=
  (max 0 (min 1100 ((natAt p (3 * i.val) 2 : Int) + axisCorrection s i))).toNat

/-- The number of cells of a FACE sample that are valid. -/
def cellsRead (s : State) (p : List Byte) : Nat := (allCells.filter fun i => decide (CellReads s p i)).length

/-- The number of valid cells whose corrected value lies below a pressure. -/
def cellsBelow (s : State) (p : List Byte) (m : Nat) : Nat :=
  (allCells.filter fun i => decide (CellReads s p i ∧ axisPressure s p i < m)).length

/-- The face part of the FBU's state after an evaluation: the cells, n, the validity, P_w and the timer (R25 to R29). -/
abbrev FaceMeasured (p : List Byte) (s u : State) : Prop :=
  (∀ i : Fin 5,
    u.fbu.cells[i] =
      { raw := some (natAt p (3 * i.val) 2), fault := flagAt p (3 * i.val + 2), valid := decide (CellReads s p i)
        corrected := if CellReads s p i then some (axisPressure s p i) else none }) ∧
    u.fbu.count = cellsRead s p ∧ u.fbu.valid = decide (2 ≤ cellsRead s p) ∧
    (cellsRead s p < 2 → u.fbu.pw = s.fbu.pw) ∧
    (2 ≤ cellsRead s p →
      ∃ m ∈ u.fbu.pw,
        cellsBelow s p m ≤ (cellsRead s p - 1) / 2 ∧ (cellsRead s p - 1) / 2 < cellsBelow s p (m + 1)) ∧
    u.fbu.invalidTimer =
      if 2 ≤ cellsRead s p then .stopped
      else if s.fbu.invalidTimer = .stopped then .running s.ms s.cfb.face.faceInvalidMs
      else s.fbu.invalidTimer

/-- T_eff under the active plan and the bias (R31). -/
def targetOf (s : State) : Option Nat := s.rru.active.map fun p => min 1000 (p.plan.target + s.fbu.bias)

/-- The class of an evaluation with the validity, P_w and T_eff given (R33). -/
def classFor (f : FaceSettings) (valid : Bool) (pw tEff : Option Nat) : FaceClass :=
  if valid = false then .invalid
  else if tEff = none then .inBand
  else if (f.highLimit : Int) < (pw.getD 0 : Int) - tEff.getD 0 then .high
  else if (pw.getD 0 : Int) - tEff.getD 0 < -(f.lowLimit : Int) then .low
  else if (pw.getD 0 : Int) - tEff.getD 0 < -(f.leapThreshold : Int) then .leap
  else if (pw.getD 0 : Int) - tEff.getD 0 < -(f.bandHalf : Int) then .under
  else if (f.bandHalf : Int) < (pw.getD 0 : Int) - tEff.getD 0 then .over
  else .inBand

/-- The FACE entry of a class (R34). -/
def entryFor (c : FaceClass) : Cap := if c = .high ∨ c = .invalid then .rate 0 else .noLimit

/-- The event of an evaluation: a class entered (R34). -/
def classEvent (before : Option FaceClass) (c : FaceClass) (pw : Option Nat) (n : Nat) : Option EventBody :=
  if before = some c then none
  else if c = .high then some (.faceHigh (pw.getD 0))
  else if c = .low then some (.faceLow (pw.getD 0))
  else if c = .invalid then some (.faceInvalid n)
  else none

/-- Δ of a class (R35). -/
def trimDelta (s : State) (c : FaceClass) : Int :=
  if c = .over ∨ c = .high then s.cfb.face.stepUp * (if s.fbu.convergence = .fast then 4 else 1)
  else if c = .under then -(s.cfb.face.stepDown * (if s.fbu.convergence = .fast then 4 else 1) : Int)
  else if c = .leap then -(s.cfb.face.leapDown : Int)
  else 0

/-- The trim after an evaluation of a class (R35, R36). -/
def trimAfter (s : State) (c : FaceClass) : Int :=
  if s.abu.phase ≠ .boring ∨ s.fbu.screwMode = .manual then s.fbu.trim
  else if 0 < trimDelta s c ∧ (s.cfb.face.screwMax : Int) ≤ feedForward s + s.fbu.trim then s.fbu.trim
  else if trimDelta s c < 0 ∧ feedForward s + s.fbu.trim ≤ (s.cfb.face.screwMin : Int) then s.fbu.trim
  else max (-500) (min 500 (s.fbu.trim + trimDelta s c))

/-- The OPEN record after an evaluation in BORING: the P_w of a VALID one, and an entry into HIGH or LOW (R30, R34). -/
def faceRecord (entered : Bool) (c : FaceClass) (valid : Bool) (pw : Nat) (x : FacePart) : FacePart :=
  { x with
    pwMin := if valid then some (min pw (x.pwMin.getD pw)) else x.pwMin
    pwMax := if valid then some (max pw (x.pwMax.getD pw)) else x.pwMax
    pwSum := if valid then x.pwSum + pw else x.pwSum
    pwCount := if valid then min 4294967295 (x.pwCount + 1) else x.pwCount
    highCount := if entered = true ∧ c = .high then min 65535 (x.highCount + 1) else x.highCount
    lowCount := if entered = true ∧ c = .low then min 65535 (x.lowCount + 1) else x.lowCount }

/-- The screw command after an evaluation (R39). -/
def screwAfter (s : State) (c : FaceClass) : Nat :=
  if s.fbu.screwMode = .manual then manualCommand s.fbu.manual s
  else if s.abu.phase ≠ .boring ∨ c = .low then 0
  else (max (s.cfb.face.screwMin : Int) (min (s.cfb.face.screwMax : Int) (feedForward s + trimAfter s c))).toNat

/-! ## The build's checks (R65, R73 to R75) -/

/-- The force in kN of the HOLDING groups (R65). -/
def heldForce (s : State) : Nat :=
  (allGroups.filter fun k => (groupOf s k).state == .holding).length * s.cfb.thrust.groupForce

/-- The build may stay: the face is VALID and the HOLDING groups bear it (R65, R73). -/
abbrev BearsFace (s : State) : Prop := s.fbu.valid = true ∧ ∃ p ∈ s.fbu.pw, holdingNeed p s ≤ heldForce s

/-- The build may resume: the same with 5 % margin (R65, R75). -/
abbrev BearsFaceWithMargin (s : State) : Prop :=
  s.fbu.valid = true ∧ ∃ p ∈ s.fbu.pw, holdingNeed p s * 1050 ≤ heldForce s * 1000

/-- A group after an entry into BUILD_SUSPENDED (R60, R61, R74). -/
def suspendedGroup (now : Stamp) (g : Group) : Group :=
  if g.state = .retracted then
    { g with state := .recovering, orderQueued := true, moveTimer := .running now 60000 }
  else if g.state = .retracting ∧ g.orderQueued = true then
    { g with state := .holding, orderQueued := true, moveTimer := .stopped }
  else if g.state = .retracting then { g with recoverPending := true }
  else g

/-- The build of state `m` is suspended (R73, R74). -/
abbrev BuildSuspends (m u : State) : Prop :=
  u.abu =
      { m.abu with
        phase := .buildSuspended, suspensions := min 255 (m.abu.suspensions + 1)
        groups := Vector.ofFn fun g : Fin 7 => suspendedGroup m.ms (groupOf m g) } ∧
    (∀ g : Fin 7,
      ((groupOf m g).state = .retracted → ItemWaits (.groupOrder g .recover 0) u) ∧
        ((groupOf m g).state = .retracting → (groupOf m g).orderQueued = true → ItemWaits (.groupOrder g .hold 0) u)) ∧
    EventWaits (.buildSuspended (!m.fbu.valid)) u ∧ u.chm = m.chm ∧ u.mbu = m.mbu ∧ u.rru = m.rru ∧
    u.fbu = { m.fbu with screwSent := u.fbu.screwSent } ∧ u.gru = { m.gru with lines := u.gru.lines } ∧
    (∀ l : Fin 6, (lineOf u l).state = (lineOf m l).state)

/-! ## Thrust samples (R9, R59) -/

/-- A group after a sample reports its position (R59, R61). -/
def movedGroup (now : Stamp) (g : Group) (seen : GroupPosition) : Group :=
  if g.state = .retracting ∧ seen = .retracted ∧ g.recoverPending = true then
    { g with
      position := some seen, state := .recovering, recoverPending := false, orderQueued := true
      moveTimer := .running now 60000 }
  else if g.state = .retracting ∧ seen = .retracted then
    { g with position := some seen, state := .retracted, moveTimer := .stopped }
  else if (g.state = .shoving ∨ g.state = .recovering) ∧ seen = .extended then
    { g with position := some seen, state := .holding, moveTimer := .stopped }
  else { g with position := some seen }

/-- The position that a THRUST sample reports for a group (R59, 9.7). -/
def reportedAt (p : List Byte) (g : Fin 7) : GroupPosition := groupPositionOf (byteAt p (6 + g.val))

/-- The state after a THRUST sample that forms no increment, before the checks of the build (R9, R59). -/
def thrustTaken (s : State) (sequence : Byte) (p : List Byte) : State :=
  { s with
    fbu := { s.fbu with v := min 200 (natAt p 4 2) }
    abu := { s.abu with
      advanceRef :=
        if s.abu.advanceRef.isSome = true ∧ s.abu.phase = .boring then s.abu.advanceRef else some (intAt p 0 4)
      groups := Vector.ofFn fun g : Fin 7 => movedGroup s.ms (groupOf s g) (reportedAt p g) }
    mlp := heardMlp s .thrust sequence }

/-! ## Grout (R88, R90, R99) -/

/-- The state with one line's record replaced. -/
def withLine (s : State) (l : Fin 6) (x : Line) : State := { s with gru := { s.gru with lines := s.gru.lines.set l x } }

/-- The state after the stroke in flight of a line is abandoned, as far as the finishing list and the records go: a stroke
of a finishing ring leaves its count, with nothing credited (R90 step 2, R100). -/
def strokeAbandoned (s : State) (l : Fin 6) : State :=
  match (lineOf s l).stroke with
  | none => s
  | some k => if ∃ e ∈ s.gru.finishing, k.ring = some e.ring then endFinishingStroke (k.ring.getD 0) 0 s else s

/-- The records without their hold counts. -/
def withoutHolds (rs : List RingRecord) : List RingRecord :=
  rs.map fun r => { r with advance := { r.advance with holds := 0 } }

/-- The GROUT entry and the lag band of a deficit, from the first row of R99 after the one for six BLOCKED lines. -/
def lagRow (s : State) : Cap × LagBand :=
  if deficit s ≤ (s.cfb.grout.lagWarn : Int) then (.noLimit, .none)
  else if deficit s < (s.cfb.grout.lagStop : Int) then
    (.rate
      ((s.abu.caps.plan : Int) * ((s.cfb.grout.lagStop : Int) - deficit s) /
        ((s.cfb.grout.lagStop : Int) - s.cfb.grout.lagWarn)).toNat, .lag)
  else (.rate 0, .stop)

/-! ## Muck (R106, R111) -/

/-- The verdict on a slice of theoretical mass `mt` (R111). -/
def verdictOf (k : MuckSettings) (x : Slice) (mt : Nat) : Verdict :=
  if x.index < k.cropHead ∨ x.length * 2 < k.sliceLen then .notJudged
  else if 1000 + k.overTol < x.measured * 1000 / mt then .over
  else if x.measured * 1000 / mt + k.underTol < 1000 then .under
  else .ok

/-- A slice that becomes FINAL is the last of its ring to do so, and the ring's stroke has ended: the ring's muck part is
written (R114). -/
abbrev LastOfItsRing (x : Slice) (s : State) : Prop :=
  (s.mbu.strokeRing ≠ some x.ring ∨ s.mbu.inProgress = false) ∧
    ∀ y ∈ s.mbu.slices, y.ring = x.ring → y.index ≠ x.index → y.state = .final

/-- The state after a sector is seated and its group ordered to SHOVE, before the expected sector is formed anew (R70). -/
def seatTaken (s : State) (k : Fin 7) (gap : Nat) (sequence : Byte) : State :=
  { heardOnly s .erector sequence with
    abu := { s.abu with
      sectors := s.abu.sectors.set k
        { state := if gap ≤ s.cfb.thrust.seatTol then .placed else .offset
          gap := some gap
          reseats :=
            if (sectorOf s k).state = .offset then min 255 ((sectorOf s k).reseats + 1) else (sectorOf s k).reseats }
      groups := s.abu.groups.set k
        { groupOf s k with
          state := .shoving
          lock := if gap ≤ s.cfb.thrust.seatTol then true else (groupOf s k).lock
          orderQueued := true, moveTimer := .running s.ms 60000 } } }

/-! ## Slices (R105 to R110) -/

/-- M_t of a length under a plan (R110). -/
def theoreticalOf (s : State) (a : ActivePlan) (length : Nat) : Nat :=
  (s.cfb.aFace.getD 0 * length * a.plan.density + 500000000) / 1000000000 + a.plan.additive * length / 1000

/-- The MBU after the readings of a BELT sample (R105). -/
def beltMoved (s : State) (travel mass : Int) : Mbu :=
  { s.mbu with
    belt := min 281474976710655 (s.mbu.belt + travel.toNat)
    negativeTravel := if travel < 0 then min 65535 (s.mbu.negativeTravel + 1) else s.mbu.negativeTravel
    negativeMass := if mass < 0 then min 65535 (s.mbu.negativeMass + 1) else s.mbu.negativeMass }

/-- The slices whose spoil has begun to arrive at the belt position that a travel leads to, oldest first (R106). -/
def arrivals (s : State) (travel : Int) : List Slice :=
  s.mbu.slices.filter fun x =>
    decide (x.bStart ≤ (beltMoved s travel 0).belt ∧ (x.state = .opened → 0 < x.length))

/-! ## Credits (R86) -/

/-- A grout record's figures of one line replaced, in the record of a ring whose grout part is not final. -/
def withFigures (s : State) (l : Fin 6) (ring : Nat) (f : GroutLineFigures → GroutLineFigures) : Rru :=
  { s.rru with
    records := s.rru.records.map fun r =>
      if r.plan.ring = ring ∧ r.groutFinal = false then
        { r with grout := { r.grout with lines := r.grout.lines.set l (f r.grout.lines[l]) } }
      else r }

/-- A stroke's volume credited to the grout ring: the totals, the line's figures, the record (R86). -/
def creditedToRing (s : State) (l : Fin 6) (ring ml : Nat) : State :=
  { s with
    gru := { s.gru with
      delivered := s.gru.delivered + ml
      lines := s.gru.lines.set l
        { lineOf s l with
          ringVolume := (lineOf s l).ringVolume + ml, ringStrokes := min 65535 ((lineOf s l).ringStrokes + 1) } }
    rru := withFigures s l ring fun _ =>
      { ml := (lineOf s l).ringVolume + ml, strokes := min 65535 ((lineOf s l).ringStrokes + 1) } }

/-- A stroke's volume posted to the record of a finishing ring (R86; log 28). -/
def postedToFinishing (s : State) (l : Fin 6) (ring ml : Nat) : State :=
  { s with rru := withFigures s l ring fun x => { ml := x.ml + ml, strokes := min 65535 (x.strokes + 1) } }

/-! ## The bytes of the reads (R145) -/

/-- A field of a reply: a number of a width in bytes, unsigned or signed, or an absent one. -/
inductive Field where
  | number (w : Nat) (v : Option Nat)
  | signed (w : Nat) (v : Option Int)
  deriving DecidableEq, Repr

/-- The width of a field in bytes. -/
def Field.width : Field → Nat
  | .number w _ => w
  | .signed w _ => w

/-- Bytes, high byte first, spell a field: an absent one is all ones, or the most negative value of a signed one; of a
value that its width does not hold nothing is said (R145; log 13). -/
def Field.spelledBy (bytes : List Byte) : Field → Bool
  | .number w none => decide (fromBigEndian bytes = 256 ^ w - 1)
  | .number w (some v) => decide (v < 256 ^ w → fromBigEndian bytes = v)
  | .signed w none => decide (signedOf w (fromBigEndian bytes) = -(256 ^ w / 2 : Int))
  | .signed w (some v) =>
    decide (-(256 ^ w / 2 : Int) ≤ v → v < (256 ^ w / 2 : Int) → signedOf w (fromBigEndian bytes) = v)

/-- Bytes spell a list of fields one after another, and nothing more. -/
def spells : List Field → List Byte → Bool
  | [], p => p.isEmpty
  | f :: fs, p => decide (f.width ≤ p.length) && f.spelledBy (p.take f.width) && spells fs (p.drop f.width)

/-- A flag. -/
def flagField (b : Bool) : Field := .number 1 (some (if b then 1 else 0))

/-- An unsigned field that is present. -/
def numberField (w v : Nat) : Field := .number w (some v)

/-- A rate that may be "no limit". -/
def capField : Cap → Field
  | .noLimit => numberField 1 255
  | .rate r => numberField 1 r

/-- The status header (R151). -/
def headerFields (k : Fin 7) (s : State) : List Field :=
  [numberField 4 s.ms.toNat, numberField 1 k.val, numberField 1 (phaseCode s.abu.phase), numberField 2 s.clp.gapCount,
   numberField 2 s.clp.crcCount, numberField 2 s.clp.lenCount, numberField 2 s.clp.overrunCount, numberField 2 s.clp.lost,
   numberField 1 s.clp.events.length]

/-- A plan's fields in the order of R118. -/
def planFields (p : Plan) : List Field :=
  [numberField 2 p.ring, numberField 1 p.keySector.val, numberField 1 p.rate, numberField 2 p.target,
   numberField 2 p.cutterSpeed, numberField 1 (planDirectionCode p.direction), numberField 2 p.fill,
   numberField 2 p.density, numberField 2 p.additive] ++
    (match p.lineModes with
      | none => [numberField 1 0]
      | some m => numberField 1 6 :: allLines.map fun l => numberField 1 (lineModeCode m[l])) ++
    numberField 1 p.trims.length :: p.trims.map fun t => .signed 2 (some t)

/-- Section 0 in the order of R1, R46, R119, R126 and R125 (logs 16 and 45). -/
def phaseFields (s : State) : List Field :=
  [numberField 1 (phaseCode s.abu.phase), .number 1 (s.abu.resumePhase.map phaseCode),
   .number 1 (s.abu.haltCause.map causeCode), .number 1 (s.abu.haltCause.bind causeSubject),
   numberField 1 s.abu.furtherCauses, .signed 4 s.abu.advanceRef, .signed 4 (some s.abu.strokeStart),
   .signed 4 (some s.abu.strokeTarget), numberField 1 (cutterStateCode s.chm.state),
   numberField 1 (directionCode s.chm.direction), numberField 1 (driveModeCode s.chm.mode),
   numberField 2 s.chm.manualSpeed, numberField 2 s.chm.speedSent, .number 2 s.chm.speed, .number 2 s.chm.torque,
   .signed 2 s.chm.roll, .number 2 (s.rru.active.map fun p => p.plan.ring),
   flagField ((s.rru.active.map fun p => p.repeated).getD false), numberField 1 s.rru.queue.length,
   numberField 1 s.rru.records.length, .number 2 (s.rru.records.getLast?.map fun r => r.plan.ring),
   .number 1 (s.rru.records.getLast?.map fun r => recordStatusCode r.status)] ++
    match s.rru.active with
    | none => []
    | some p => planFields p.plan

/-- Section 1 in the order of R23. -/
def faceFields (f : Fbu) : List Field :=
  [.number 2 f.pw, flagField f.valid, numberField 1 f.count, .number 1 (f.faceClass.map faceClassCode), .number 2 f.tEff,
   numberField 1 f.bias, .signed 2 (some f.trim), numberField 1 (convergenceCode f.convergence),
   numberField 1 (driveModeCode f.screwMode), numberField 2 f.manual, numberField 2 f.screwSent,
   numberField 1 (gateCode f.gateSent), .number 2 (f.echo.map Prod.fst),
   .number 1 (f.echo.map fun e => gateCode e.2)]

/-- Section 2: the six entries, the effective rate, the held indicator, the rate command sent (R151). -/
def capsFields (a : Abu) : List Field :=
  [numberField 1 a.caps.plan, capField a.caps.cabin, capField a.caps.face, capField a.caps.cutter, capField a.caps.grout,
   capField a.caps.muck, numberField 1 a.effective, .number 1 (a.held.map entryCode), numberField 1 a.rateSent]

/-- A sector's fields (R64). -/
def sectorFields (k : Sector) : List Field :=
  [numberField 1 (sectorStateCode k.state), .number 2 k.gap, numberField 1 k.reseats]

/-- Section 3 (R58, R63 to R65): the groups, the build order and the expected sector, the sectors and the suspension
count, F_req and the holding force. -/
def groupsFields (s : State) : List Field :=
  (allGroups.flatMap fun g =>
    [numberField 1 (groupStateCode (groupOf s g).state), flagField (groupOf s g).lock,
     .number 1 ((groupOf s g).position.map groupPositionCode)]) ++
    (allGroups.map fun i => .number 1 (s.abu.buildOrder.map fun o => o[i].val)) ++
    [.number 1 (s.abu.expected.map Fin.val)] ++ (allGroups.flatMap fun k => sectorFields (sectorOf s k)) ++
    [numberField 1 s.abu.suspensions,
     .number 4
      (if (s.abu.phase = .building ∨ s.abu.phase = .buildSuspended) ∧ s.fbu.valid = true then
        s.fbu.pw.map fun p => holdingNeed p s
      else none),
     .number 4 (if s.abu.phase = .building ∨ s.abu.phase = .buildSuspended then some (heldForce s) else none)]

/-- A stroke record's fields in the order of R81, each absent without a stroke. -/
def strokeFields (k : Option Stroke) : List Field :=
  [.number 1 (k.map fun x => strokeKindCode x.kind), .number 2 (k.map fun x => x.volume), .number 2 (k.bind fun x => x.ring),
   .number 4 (k.map fun x => x.issued.toNat), .number 1 (k.map fun x => if x.sent then 1 else 0)]

/-- The grout ring items in the order of R80, the demand and the deficit of R99 in ml. -/
def groutRingFields (g : Gru) : List Field :=
  [.number 2 g.groutRing, numberField 4 (g.demand / 1000000), numberField 4 g.delivered,
   .signed 4 (some (if g.groutRing = none then 0 else ((g.demand / 1000000 : Nat) : Int) - (g.delivered : Int))),
   numberField 1 (lagBandCode g.band)]

/-- Section 4 (R80, R81). -/
def linesFields (s : State) : List Field :=
  groutRingFields s.gru ++
    allLines.flatMap fun l =>
      [numberField 1 (lineStateCode (lineOf s l).state), numberField 1 (lineModeCode (lineOf s l).mode),
       numberField 2 (lineOf s l).share, numberField 4 ((lineOf s l).acc / 1000000)] ++
        strokeFields (lineOf s l).stroke ++
        [.number 2 (lineOf s l).pressure, .number 1 ((lineOf s l).cause.map blockCauseCode)]

/-- A slice's fields in the order of R104, each absent without a slice (widths by logs 16 and 17). -/
def sliceFields (x : Option Slice) : List Field :=
  [.number 2 (x.map Slice.ring), .number 1 (x.map Slice.index), .number 4 (x.map Slice.advanceStart),
   .number 4 (x.map Slice.length), .number 4 (x.bind Slice.closePoint), .number 6 (x.map Slice.bStart),
   .number 4 (x.bind Slice.theoretical), .number 4 (x.map Slice.measured),
   .number 1 (x.map fun y => sliceStateCode y.state), .number 1 ((x.bind Slice.verdict).map verdictCode)]

/-- Section 5 in the order of the sentence of R103 (log 16). -/
def muckFields (m : Mbu) : List Field :=
  [numberField 6 m.belt, .number 6 (m.tail.map fun t => t.position), numberField 1 m.slices.length] ++
    sliceFields (m.slices.find? fun x => decide (x.state = .opened)) ++
    [numberField 1 m.overRun, numberField 1 m.okRun, numberField 1 (overdigCode m.overdig), flagField m.openingPending,
     numberField 4 m.unattributed, numberField 2 m.negativeTravel, numberField 2 m.negativeMass]

/-- Section 6: the node states in role order, the freeze flag, the number of items in the command queue (R132). -/
def nodesFields (s : State) : List Field :=
  (allRoles.map fun r => numberField 1 (nodeStateCode (nodeOf s r).state)) ++
    [flagField s.mlp.frozen, numberField 1 s.mlp.queue.length]

/-- The seven sections (R151). -/
def sectionFields (k : Fin 7) (s : State) : List Field :=
  match k with
  | 0 => phaseFields s
  | 1 => faceFields s.fbu
  | 2 => capsFields s.abu
  | 3 => groupsFields s
  | 4 => linesFields s
  | 5 => muckFields s.mbu
  | 6 => nodesFields s

/-- LINE READ: the whole line record in the order of R81, the grout ring items, the finishing list with its count, the
unattributed volume (R147; widths by log 17). -/
def lineReadFields (s : State) (l : Fin 6) : List Field :=
  [numberField 1 (lineStateCode (lineOf s l).state), numberField 1 (lineModeCode (lineOf s l).mode),
   numberField 1 (lineModeCode (lineOf s l).pendingMode), numberField 2 s.cfb.grout.baseShares[l],
   numberField 2 (lineOf s l).share, numberField 4 ((lineOf s l).acc / 1000000)] ++
    strokeFields (lineOf s l).stroke ++
    [numberField 1 (timerCode (lineOf s l).strokeTimer), numberField 4 (lineOf s l).period,
     numberField 4 (lineOf s l).pendingPeriod, numberField 1 (timerCode (lineOf s l).periodTimer),
     numberField 1 (lineOf s l).topUp, numberField 1 (lineOf s l).flush, .number 2 (lineOf s l).pressure,
     numberField 2 (lineOf s l).ringStrokes, numberField 4 (lineOf s l).ringVolume,
     .number 1 ((lineOf s l).cause.map blockCauseCode)] ++
    groutRingFields s.gru ++ numberField 1 s.gru.finishing.length ::
    (s.gru.finishing.flatMap fun e =>
      [numberField 2 e.ring, numberField 4 (e.demand / 1000000), numberField 4 e.delivered, numberField 1 e.inFlight]) ++
    [numberField 4 s.gru.unattributed]

/-- RING READ: the status, the final flags (their CUT marks by log 47), and the six parts in the order of R128 with the
mean P_w (R131; widths by log 17). -/
def recordFields (r : RingRecord) : List Field :=
  [numberField 1 (recordStatusCode r.status), flagField r.buildFinal, flagField r.groutFinal, flagField r.groutCut,
   flagField r.muckFinal, flagField r.muckCut] ++
    planFields r.plan ++
    [flagField r.repeated, .signed 4 (some r.advance.strokeStart), .signed 4 (some r.advance.length),
     numberField 1 r.advance.holds, numberField 1 r.advance.safeStops, .number 2 r.face.pwMin, .number 2 r.face.pwMax,
     numberField 8 r.face.pwSum, numberField 4 r.face.pwCount, numberField 2 r.face.highCount,
     numberField 2 r.face.lowCount, .number 1 r.face.bias,
     .number 2 (if r.face.pwCount = 0 then none else some (r.face.pwSum / r.face.pwCount)),
     .number 2 r.cutter.maxTorque, numberField 1 (directionCode r.cutter.direction)] ++
    (allGroups.flatMap fun k => sectorFields r.build.sectors[k]) ++ numberField 1 r.build.suspensions ::
    (allLines.flatMap fun l => [numberField 4 r.grout.lines[l].ml, numberField 2 r.grout.lines[l].strokes]) ++
    [numberField 4 r.grout.demandMl, .signed 4 (some r.grout.deficit), numberField 2 r.muck.slices,
     numberField 4 r.muck.measured, numberField 4 r.muck.theoretical, numberField 2 r.muck.overs,
     numberField 2 r.muck.unders]

/-- SLICE READ: the slice, its ratio once it is FINAL, held at the greatest value, and the summary (R116, R145; log 46). -/
def sliceReadFields (x : Slice) (m : Mbu) : List Field :=
  sliceFields (some x) ++
    .number 4 (if x.state = .final then some (min 4294967295 (x.measured * 1000 / x.theoretical.getD 0)) else none) ::
    muckFields m

/-- GET: the value, the least, the greatest and the default of an item, six values of two bytes for base_shares; the ends
and the default of a derived value are absent (R157; logs 17 and 25). -/
def settingFields (c : Cfb) (i : SettingItem) : List Field :=
  if i = .baseShares then
    (allLines.map fun l => numberField 2 c.grout.baseShares[l]) ++ [numberField 2 0, numberField 2 1000] ++
      [220, 180, 100, 100, 180, 220].map (numberField 2)
  else if i = .aFace ∨ i = .vVoid then
    [match getSetting c i with
      | none => .number 4 none
      | some v => .signed 4 (some v),
     .number 4 none, .number 4 none, .number 4 none]
  else
    [.signed 4 (getSetting c i), .signed 4 (some (settingRange i).1), .signed 4 (some (settingRange i).2),
     .signed 4 (getSetting Cfb.reset i)]

/-- The value fields of a command item (R145). -/
def commandFields : Command → List Field
  | .advanceRate v => [numberField 1 v]
  | .groupOrder g o t => [numberField 1 g.val, numberField 1 (groupOrderCode o), .signed 2 (some t)]
  | .driveOrder o v d => [numberField 1 (driveOrderCode o), numberField 2 v, numberField 1 (directionCode d)]
  | .screwSpeed v => [numberField 2 v]
  | .screwGate g => [numberField 1 (gateCode g)]
  | .nextSector k => [.number 1 (k.map Fin.val)]
  | .pumpOrder _ (some (k, v)) => [numberField 1 0, numberField 1 (strokeKindCode k), numberField 2 v]
  | .pumpOrder _ none => [numberField 1 1, numberField 1 0, numberField 2 0]

/-- The value of a role's echoed item while none has been transmitted (R132, R145; log 19). -/
def untransmitted : Role → List Field
  | .face | .belt => []
  | .thrust | .erector => [.number 1 none]
  | .screw => [.number 2 none]
  | .cutter | .grout _ => [.number 4 none]

/-- NODE READ: the node entry in the order of R132 with the time since the last arrival, the line counts, the freeze flag
with the time left on its timer, the number of items in the command queue (R141; log 26). -/
def nodeReadFields (s : State) (r : Role) : List Field :=
  [numberField 1 (roleIndex r).val, numberField 1 (addressOf s r), numberField 1 (nodeStateCode (nodeOf s r).state),
   .number 1 ((nodeOf s r).lastSequence.map BitVec.toNat), numberField 4 (nodeOf s r).received,
   numberField 4 (nodeOf s r).missed, numberField 1 (nodeOf s r).mismatchRun, numberField 2 (timeoutOf s r),
   numberField 1 (timerCode (nodeOf s r).silenceTimer), .number 4 ((nodeOf s r).lastArrival.map BitVec.toNat),
   .number 4 ((nodeOf s r).lastArrival.map fun t => (s.ms - t).toNat)] ++
    (match (nodeOf s r).lastTransmitted with
      | none => untransmitted r
      | some c => commandFields c) ++
    [numberField 2 s.mlp.gapCount, numberField 2 s.mlp.crcCount, numberField 2 s.mlp.lenCount,
     numberField 2 s.mlp.unknownCount, numberField 2 s.mlp.repeatedCount, flagField s.mlp.frozen,
     .number 2
      (match s.mlp.freezeTimer with
        | .running start d => some (d - (s.ms - start).toNat)
        | _ => none),
     numberField 1 s.mlp.queue.length]

end Sys2Proof.Machine
end

