-- ==== Sys2Proof/WellFormed.lean ====
section
/-! DEFINITION. Which commands are what their row says: a payload that a frame can carry, a kind that the row allows. -/

namespace Sys2Proof

/-- Whether the catalogue of R146 holds a kind: 0x01 to 0x24. -/
def knownKind (kind : Byte) : Bool := decide (1 ≤ kind.toNat) && decide (kind.toNat ≤ 0x24)

/-- Whether a frame can carry a payload (R142). -/
def payloadFits (payload : List Byte) : Bool := decide (payload.length ≤ 248)

/-- Whether a kind is that of a sample or a report (spec/09_cabin_link.md 9.7). -/
def sampleOrReport (kind : Byte) : Bool := kind == 1 || kind == 2

/-- The commands that are what their row of the table says. -/
def wellFormed : Instr → Bool
  | .powerOnReset | .lineReset | .cabinTxDone | .cabinSilenceExpiry | .statusPacingExpiry | .faceInvalidExpiry
  | .startTimerExpiry | .moveTimerExpiry _ | .strokeTimerExpiry _ | .periodTimerExpiry _ | .silenceTimerExpiry _
  | .machineTxDone | .freezeTimerExpiry => true
  | .cabinFrameReceived bytes | .cabinRxGap bytes | .machineRxGap bytes | .machineFrameDiscarded bytes => !bytes.isEmpty
  | .unknownKind kind _ payload => !knownKind kind && payloadFits payload
  | .status _ payload | .ping _ payload | .commission _ payload | .restart _ payload | .set _ payload | .get _ payload
  | .planPush _ payload | .planDrop _ payload | .planList _ payload | .start _ payload | .hold _ payload
  | .release _ payload | .endStroke _ payload | .enterBuild _ payload | .safeStop _ payload | .resume _ payload
  | .retract _ payload | .reseat _ payload | .accept _ payload | .screwManual _ payload | .screwAuto _ payload
  | .faceMode _ payload | .biasClear _ payload | .cutterManual _ payload | .cutterAuto _ payload
  | .linePause _ payload | .lineContinue _ payload | .lineClear _ payload | .lineTopup _ payload | .lineMode _ payload
  | .freeze _ payload | .unfreeze _ payload | .ringRead _ payload | .sliceRead _ payload | .nodeRead _ payload
  | .lineRead _ payload => payloadFits payload
  | .faceSample _ _ payload | .cutterSample _ _ payload | .screwSample _ _ payload | .thrustSample _ _ payload
  | .erectorSample _ _ payload | .beltSample _ _ payload | .groutSample _ _ payload => payloadFits payload
  | .seatReport _ _ payload => payload.head? == some 0 && payloadFits payload
  | .doneReport _ _ payload => payload.head? == some 1 && payloadFits payload
  | .nodeOtherFrame kind _ _ payload => !sampleOrReport kind && payloadFits payload
  | .unknownAddressFrame _ _ _ payload => payloadFits payload

end Sys2Proof
end

