-- ==== Sys2Proof/Certificates/Slice0/Obligations.lean ====
section
/-! DEFINITION. The statements for the provers: what each command of the Ardolin 740 does, and the laws that every step
keeps. The words they use are those of Sys2Proof/Safety.lean and Sys2Proof/Safety/Effects.lean. -/

open Sys2Proof Sys2Proof.Machine

/-! ## Steps, resets, time -/

/-- With a command at the front of its queue the device runs that command with the queue's rest. (The queue of
commands is the model's, log 1.) -/
def Obligations.StepRunsFrontCommand : Prop :=
  ∀ (c : Instr) (s : State), step { s with pending := c :: s.pending } = exec c s

/-- The model's choice (logs 3 and 5): with no command waiting a step is one millisecond, after which exactly the
expiries of the running timers whose duration has passed wait, each once, in a free order; nothing else changes. -/
def Obligations.IdleStepPassesOneMillisecond : Prop :=
  ∀ (s : State), s.pending = [] →
    ∃ t, step s = .next t ∧ t = { s with ms := s.ms + 1, pending := t.pending } ∧ t.pending.Nodup ∧
      (∀ x ∈ allTimers s, x.2 ∈ t.pending ↔ timerDue (s.ms + 1) x.1 = true) ∧
      ∀ c ∈ t.pending, ∃ x ∈ allTimers s, x.2 = c

/-- Both resets leave every block at the values that the chapters show for power-on reset and line reset, whatever
went before. The millisecond count is 0; the receivers hunt and nothing is sent on the Cabin Link (log 31). The frame
on the Machine Line stays (log 8), and so do the commands that wait (log 34). (That GROUT_HALT's memory haltPosted is
clear is the model's choice of log 22; the P_max and P_resume that a line holds in force are the model's own fields of
log 48. The settings are those of Cfb.reset.) -/
def Obligations.ResetsLeaveTheStatedValues : Prop :=
  ∀ (s : State), ∃ t, exec .powerOnReset s = .next t ∧ exec .lineReset s = .next t ∧ t.pending = s.pending ∧ t.ms = 0 ∧
    t.abu =
      { phase := .unconfigured, resumePhase := none, haltCause := none, furtherCauses := 0, advanceRef := none
        strokeStart := 0, strokeTarget := 0
        caps := { plan := 0, cabin := .noLimit, face := .noLimit, cutter := .noLimit, grout := .noLimit, muck := .noLimit }
        effective := 0, rateSent := 0, held := none
        groups := Vector.replicate 7
          { state := .holding, lock := false, position := none, orderQueued := false, recoverPending := false
            moveTimer := .stopped }
        buildOrder := none, expected := none
        sectors := Vector.replicate 7 { state := .empty, gap := none, reseats := 0 }, suspensions := 0 } ∧
    t.fbu =
      { cells := Vector.replicate 5 { raw := none, fault := false, valid := false, corrected := none }
        pw := none, valid := false, count := 0, faceClass := none, tEff := none, bias := 0, trim := 0
        convergence := .slow, screwMode := .auto, manual := 0, v := 0, screwSent := 0, gateSent := .closed, echo := none
        invalidTimer := .stopped } ∧
    t.chm =
      { state := .stopped, direction := .cw, mode := .auto, manualSpeed := 0, speedSent := 0, speed := none
        torque := none, roll := none, alarm := .armed, band := none, startTimer := .stopped } ∧
    (∀ l : Fin 6,
      lineOf t l =
        { state := .idle, mode := .locked, pendingMode := .locked, share := #v[220, 180, 100, 100, 180, 220][l], acc := 0
          stroke := none, strokeTimer := .stopped, period := 30000, pendingPeriod := 30000, periodTimer := .stopped
          topUp := 0, flush := 0, pressure := none, pMaxInForce := 450, pResumeInForce := 380, ringStrokes := 0
          ringVolume := 0, cause := none }) ∧
    t.gru =
      { lines := t.gru.lines, groutRing := none, demand := 0, delivered := 0, band := .none, finishing := []
        unattributed := 0, haltPosted := false } ∧
    t.mbu =
      { belt := 0, slices := [], strokeRing := none, inProgress := false, strokeAdvance := 0, nextIndex := 0, tail := none
        overRun := 0, okRun := 0, overdig := .inactive, openingPending := false, unattributed := 0, negativeTravel := 0
        negativeMass := 0 } ∧
    t.rru = { queue := [], active := none, exhausted := false, records := [] } ∧
    t.mlp =
      { nodes := Vector.replicate 12
          { state := .unseen, lastSequence := none, received := 0, missed := 0, mismatchRun := 0, silenceTimer := .stopped
            lastArrival := none, lastTransmitted := none }
        gapCount := 0, crcCount := 0, lenCount := 0, unknownCount := 0, repeatedCount := 0, queue := [], frozen := false
        freezeTimer := .stopped, receiver := .hunting, tx := s.mlp.tx, sequences := Vector.replicate 12 0 } ∧
    t.clp =
      { receiver := .hunting, rxQueue := [], gapCount := 0, crcCount := 0, lenCount := 0, overrunCount := 0, reply := none
        tx := none, events := [], lost := 0, reportCount := 0, silenceTimer := .stopped, pacingTimer := .running 0 200
        due := false, copies := Vector.replicate 7 none } ∧
    t.cfb = Cfb.reset

/-! ## The two lines -/

/-- For every request command, every tag and every payload up to 248 bytes, the bytes of its Cabin Link frame (start
marker, length, kind, tag, payload, CRC) gathered by a hunting receiver do what that request command does, which is to
receive the frame. For every kind, address, sequence number and payload up to 248 bytes, the bytes of a Machine Line
frame gathered by a hunting receiver do what the arrival of that frame does. (That a request row stands for its whole
frame is log 1.) -/
def Obligations.FramedBytesAreTheirCommands : Prop :=
  ∀ (c : Instr) (f : CabinFrame) (kind address sequence : Byte) (payload : List Byte) (s : State),
    (requestFrame c = some f → f.payload.length ≤ 248 →
     s.clp.receiver = .hunting →
     exec (.cabinFrameReceived (framed (cabinBody f))) s = exec c s ∧
       exec c s = .next (settle (receiveFrame f s))) ∧
    (payload.length ≤ 248 →
     s.mlp.receiver = .hunting →
     exec
         (.machineFrameDiscarded
           (framed (machineBody { kind := kind, address := address, sequence := sequence, payload := payload }))) s =
       exec (.nodeOtherFrame kind address sequence payload) s)

/-- A frame whose CRC does not match is counted and reaches no block, on both lines. A length byte above 248 discards
the frame at once and is counted. A gap inside a frame discards the bytes gathered and is counted, and the byte that
ends the gap begins a hunt; while hunting a gap changes nothing. At an empty receive queue a frame of a kind outside
the catalogue is answered with UNKNOWN_KIND under the kind 0xFF with its own tag, and a known request whose payload
length the catalogue does not allow is answered with BAD_LENGTH; neither changes anything else, and neither restarts
the silence timer. -/
def Obligations.BadFramesAreCountedOrTurnedAway : Prop :=
  ∀ (body : List Byte) (n high low : Byte) (after gathered : List Byte) (kind tag : Byte) (payload : List Byte)
      (c : Instr) (f : CabinFrame) (s : State),
    (n.toNat ≤ 248 → crcBytes (n :: body) ≠ [high, low] →
     (s.clp.receiver = .hunting → body.length = n.toNat + 2 →
       exec (.cabinFrameReceived (0x7E :: n :: body ++ [high, low])) s =
         .next (settle { s with clp := { s.clp with crcCount := min 65535 (s.clp.crcCount + 1) } })) ∧
     (s.mlp.receiver = .hunting → body.length = n.toNat + 3 →
       exec (.machineFrameDiscarded (0x7E :: n :: body ++ [high, low])) s =
         .next (settle { s with mlp := { s.mlp with crcCount := min 65535 (s.mlp.crcCount + 1) } }))) ∧
    (248 < n.toNat →
     (s.clp.receiver = .hunting →
       exec (.cabinFrameReceived [0x7E, n]) s =
         .next (settle { s with clp := { s.clp with lenCount := min 65535 (s.clp.lenCount + 1) } })) ∧
     (s.mlp.receiver = .hunting →
       exec (.machineFrameDiscarded [0x7E, n]) s =
         .next (settle { s with mlp := { s.mlp with lenCount := min 65535 (s.mlp.lenCount + 1) } }))) ∧
    ((s.clp.receiver = .gathering gathered →
       exec (.cabinRxGap after) s =
         .next (settle (cabinBytes after
           { s with clp := { s.clp with receiver := .hunting, gapCount := min 65535 (s.clp.gapCount + 1) } }))) ∧
     (s.clp.receiver = .hunting → exec (.cabinRxGap after) s = .next (settle (cabinBytes after s))) ∧
     (s.mlp.receiver = .gathering gathered →
       exec (.machineRxGap after) s =
         .next (settle (machineBytes after
           { s with mlp := { s.mlp with receiver := .hunting, gapCount := min 65535 (s.mlp.gapCount + 1) } }))) ∧
     (s.mlp.receiver = .hunting → exec (.machineRxGap after) s = .next (settle (machineBytes after s)))) ∧
    (s.clp.rxQueue = [] → knownKind kind = false →
     exec (.unknownKind kind tag payload) s =
       .next (settle
         (turnedAway { kind := kind, tag := tag, payload := payload } { kind := 0xFF, tag := tag, payload := [12] } s))) ∧
    (requestFrame c = some f → s.clp.rxQueue = [] → knownKind f.kind = true →
     lengthAllowed f.kind.toNat f.payload.length = false →
     exec c s = .next (settle (turnedAway f { kind := f.kind + 0x80, tag := f.tag, payload := [10] } s)))

/-- A request that finds other frames waiting joins them, and one that finds four is dropped and counted. The end of a
report frees the transmitter. The end of a reply also ends its request: the queue's next frame becomes the head and is
taken, which is what its own arrival behind an empty queue would have been. -/
def Obligations.RequestsAreTakenOneAtATime : Prop :=
  ∀ (c : Instr) (f : CabinFrame) (x : CabinTx) (ended : CabinFrame) (rest : List CabinFrame) (s : State),
    (requestFrame c = some f →
     (s.clp.rxQueue ≠ [] ∧ s.clp.rxQueue.length < 4 →
       exec c s = .next (settle { s with clp := { s.clp with rxQueue := s.clp.rxQueue ++ [f] } })) ∧
     (4 ≤ s.clp.rxQueue.length →
       exec c s =
         .next (settle { s with clp := { s.clp with overrunCount := min 65535 (s.clp.overrunCount + 1) } }))) ∧
    (s.clp.tx = some x →
     (x.isReply = false → exec .cabinTxDone s = .next (settle { s with clp := { s.clp with tx := none } })) ∧
     (x.isReply = true → s.clp.rxQueue.length ≤ 1 →
       exec .cabinTxDone s = .next (settle { s with clp := { s.clp with tx := none, rxQueue := [] } })) ∧
     (x.isReply = true → s.clp.rxQueue = ended :: f :: rest →
       exec .cabinTxDone s =
         .next (settle (takeFrame f { s with clp := { s.clp with tx := none, rxQueue := f :: rest } }))) ∧
     (x.isReply = true → s.clp.rxQueue = [ended, f] → requestFrame c = some f →
       exec .cabinTxDone s = exec c { s with clp := { s.clp with tx := none, rxQueue := [] } }))

/-- The transmit arbiters, which run at the end of every command (log 2), the Machine Line first (log 49), leave the
FBU, the CHM, the MBU, the RRU, the settings and the time alone, in the ABU change only the order queued flags, in the
GRU only the sent mark and the stroke timer of a stroke whose order leaves; and a busy transmitter leaves its line as
it is. -/
def Obligations.SettleKeepsTheJobBlocks : Prop :=
  ∀ (s : State), (settle s).fbu = s.fbu ∧ (settle s).chm = s.chm ∧ (settle s).mbu = s.mbu ∧ (settle s).rru = s.rru ∧
    (settle s).cfb = s.cfb ∧ (settle s).ms = s.ms ∧ (settle s).pending = s.pending ∧
    (settle s).abu = { s.abu with groups := (settle s).abu.groups } ∧
    (settle s).gru = { s.gru with lines := (settle s).gru.lines } ∧
    (∀ g : Fin 7, groupOf (settle s) g = { groupOf s g with orderQueued := (groupOf (settle s) g).orderQueued }) ∧
    (∀ l : Fin 6,
      lineOf (settle s) l =
        { lineOf s l with stroke := (lineOf (settle s) l).stroke, strokeTimer := (lineOf (settle s) l).strokeTimer } ∧
      (lineOf (settle s) l).stroke.map (fun k => { k with sent := true }) =
        (lineOf s l).stroke.map fun k => { k with sent := true }) ∧
    (s.mlp.tx.isSome = true → (settle s).mlp = s.mlp ∧ (settle s).abu = s.abu ∧ (settle s).gru = s.gru) ∧
    (s.clp.tx.isSome = true → (settle s).clp = s.clp)

/-- The free Cabin Link transmitter takes a waiting reply; else the oldest event, with the lost count, which becomes
0, and the next report count; else, while status is due, the first section whose change flag is set, whose flag it
thereby clears; else it ends the due mark. The free Machine Line transmitter takes the queue's head, or under a freeze
the oldest item with the safety mark: the item leaves the queue, its frame with the node's next sequence number is on
the line, an echoed value is recorded, and its notice is given. With no item that may leave it stays idle. An item
whose node has no address leaves with its notice and without a frame, and the arbiter chooses again (log 7). (That a
change flag compares items by their bytes is the model's choice of log 50.) (That the Cabin Link chooses after the
Machine Line, on the state which that choice leaves, is the model's choice of log 49.) -/
def Obligations.TransmittersSendInOrder : Prop :=
  ∀ (r : CabinFrame) (e : Event) (rest : List Event) (n : Fin 7) (m : Nat) (i : Item) (s : State),
    (s.clp.tx = none →
     (s.clp.reply = some r →
       arbitrateCabin s = { s with clp := { s.clp with reply := none, tx := some { frame := r, isReply := true } } }) ∧
     (s.clp.reply = none → s.clp.events = e :: rest →
       arbitrateCabin s =
         { s with
           clp := { s.clp with
             events := rest, lost := 0, reportCount := s.clp.reportCount + 1
             tx := some
               { frame := { kind := 0xF1, tag := s.clp.reportCount, payload := encNat 2 s.clp.lost ++ encEvent e }
                 isReply := false } } }) ∧
     (s.clp.reply = none → s.clp.events = [] → s.clp.due = false → arbitrateCabin s = s) ∧
     (s.clp.reply = none → s.clp.events = [] → s.clp.due = true → (∀ k : Fin 7, flagRaised s k = false) →
       arbitrateCabin s = { s with clp := { s.clp with due := false } }) ∧
     (s.clp.reply = none → s.clp.events = [] → s.clp.due = true → flagRaised s n = true →
       (∀ k : Fin 7, k < n → flagRaised s k = false) →
       arbitrateCabin s =
           { s with
             clp := { s.clp with
               copies := s.clp.copies.set n (some { sent := sectionBytes n s, key := sectionKey n s })
               tx := some
                 { frame := { kind := 0xF0, tag := 0, payload := statusPayload n s }, isReply := false } } } ∧
         flagRaised (arbitrateCabin s) n = false)) ∧
    (s.mlp.queue[m]? = some i →
     (if s.mlp.frozen then i.safety = true ∧ ∀ j ∈ s.mlp.queue.take m, j.safety = false else m = 0) →
     addressOf s (roleOfKey (keyOf i.command)) ≠ 0 →
     ∃ u, exec .machineTxDone s = .next (arbitrateCabin u) ∧
       u =
         { s with
           abu := noticedAbu i.command s, gru := noticedGru i.command s
           mlp := { s.mlp with
             queue := s.mlp.queue.take m ++ s.mlp.queue.drop (m + 1)
             tx := some
               { kind := 0x10, address := BitVec.ofNat 8 (addressOf s (roleOfKey (keyOf i.command)))
                 sequence := s.mlp.sequences[roleIndex (roleOfKey (keyOf i.command))]
                 payload := commandPayload i.command }
             sequences :=
               s.mlp.sequences.set (roleIndex (roleOfKey (keyOf i.command)))
                 (s.mlp.sequences[roleIndex (roleOfKey (keyOf i.command))] + 1)
             nodes :=
               if (echoedBytes i.command).isSome then
                 s.mlp.nodes.set (roleIndex (roleOfKey (keyOf i.command)))
                   { nodeOf s (roleOfKey (keyOf i.command)) with lastTransmitted := some i.command }
               else s.mlp.nodes } }) ∧
    ((∀ i ∈ s.mlp.queue, s.mlp.frozen = true ∧ i.safety = false) →
     exec .machineTxDone s = .next (arbitrateCabin { s with mlp := { s.mlp with tx := none } })) ∧
    (s.mlp.queue[m]? = some i →
     (if s.mlp.frozen then i.safety = true ∧ ∀ j ∈ s.mlp.queue.take m, j.safety = false else m = 0) →
     addressOf s (roleOfKey (keyOf i.command)) = 0 →
     exec .machineTxDone s =
       exec .machineTxDone
         { s with
           abu := noticedAbu i.command s, gru := noticedGru i.command s
           mlp := { s.mlp with queue := s.mlp.queue.take m ++ s.mlp.queue.drop (m + 1) } })

/-! ## Reads -/

/-- STATUS answers OK with the status header and one section as they stand, PING with its own payload, LINE READ with
the line's record, the grout ring items, the finishing list and the unattributed volume; all three change nothing
beside the reply and the silence timer, so no change flag and no last-sent copy. A section above 6 and a line above 5
are refused with BAD_ITEM. The bytes of the header, of each of the seven sections and of LINE READ, read back field
after field in the widths and codes of the encoding rule, spell the values that the device holds, an absent one all
ones or the most negative value. PLAN LIST without an active plan sends 0 for its number and REPEATED clear. (The
order of the items and the widths of fields that the spec does not give, with the absent OPEN slice and the absent
active plan, are the model's choices of logs 16 and 17, the REPEATED flag without an active plan that of log 45; a
value too great for its width is free by log 13.) -/
def Obligations.StatusPingAndLineReadAnswer : Prop :=
  ∀ (tag n : Byte) (k : Fin 7) (l : Fin 6) (p : List Byte) (s : State), s.clp.rxQueue = [] →
    exec (.status tag [BitVec.ofNat 8 k.val]) s =
        .next (settle (answeredOnly { kind := 0x01, tag := tag, payload := [BitVec.ofNat 8 k.val] }
          { code := .ok, rest := statusHeader k s ++ sectionBytes k s } s)) ∧
      (6 < n.toNat →
        exec (.status tag [n]) s =
          .next (settle (answeredOnly { kind := 0x01, tag := tag, payload := [n] } (bare .badItem) s))) ∧
      (p.length ≤ 247 →
        exec (.ping tag p) s =
          .next (settle (answeredOnly { kind := 0x02, tag := tag, payload := p } { code := .ok, rest := p } s))) ∧
      exec (.lineRead tag [BitVec.ofNat 8 l.val]) s =
        .next (settle (answeredOnly { kind := 0x24, tag := tag, payload := [BitVec.ofNat 8 l.val] }
          { code := .ok, rest := encLineRead s l } s)) ∧
      spells (headerFields k s) (statusHeader k s) = true ∧ spells (sectionFields k s) (sectionBytes k s) = true ∧
      spells (lineReadFields s l) (encLineRead s l) = true ∧
      (5 < n.toNat →
        exec (.lineRead tag [n]) s =
          .next (settle (answeredOnly { kind := 0x24, tag := tag, payload := [n] } (bare .badItem) s))) ∧
      (s.rru.active = none →
        exec (.planList tag []) s =
          .next (settle (answeredOnly { kind := 0x09, tag := tag, payload := [] }
            { code := .ok
              rest :=
                [0, 0, 0] ++ encFlag s.rru.exhausted ++ encNat 1 s.rru.queue.length ++
                  s.rru.queue.flatMap fun q => encNat 2 q.ring } s)))

/-- GET answers with the group, the item, the value, its range and its default; an item that does not exist is
BAD_ITEM. RING READ answers with the record that its number names, 0 the newest, or NOT_FOUND with the number of
records; SLICE READ with the slice at its position and the summary, or NOT_FOUND with the summary, a position above 31
BAD_ITEM; NODE READ for a role 0 to 11, any other number BAD_ITEM. None changes anything beside the reply and the
silence timer. The bytes of each, read back field after field, spell the setting, the record with its flags, plan
summary and parts, the slice with its ratio and the summary, and the node entry with the line counts and the freeze
timer. (Layouts that the spec does not give are the model's choices of logs 13, 16, 17, 19, 25, 26, 46 and 47.) -/
def Obligations.GetRingSliceAndNodeReadsAnswer : Prop :=
  ∀ (tag group item high low n : Byte) (r : RingRecord) (x : Role) (s : State),
    (s.clp.rxQueue = [] →
     (settingItem group.toNat item.toNat = none →
       exec (.get tag [group, item]) s =
         .next (settle (answeredOnly { kind := 0x06, tag := tag, payload := [group, item] } (bare .badItem) s))) ∧
     (∀ i ∈ settingItem group.toNat item.toNat,
       exec (.get tag [group, item]) s =
         .next (settle (answeredOnly { kind := 0x06, tag := tag, payload := [group, item] }
           { code := .ok, rest := [group, item] ++ encSettingRead s.cfb i } s)) ∧
         spells (settingFields s.cfb i) (encSettingRead s.cfb i) = true)) ∧
    (s.clp.rxQueue = [] →
     ((if high.toNat * 256 + low.toNat = 0 then s.rru.records.getLast?
         else s.rru.records.find? fun x => x.plan.ring == high.toNat * 256 + low.toNat) = some r →
       exec (.ringRead tag [high, low]) s =
         .next (settle (answeredOnly { kind := 0x21, tag := tag, payload := [high, low] }
           { code := .ok, rest := encRecord r } s))) ∧
     spells (recordFields r) (encRecord r) = true ∧
     ((if high.toNat * 256 + low.toNat = 0 then s.rru.records.getLast?
         else s.rru.records.find? fun x => x.plan.ring == high.toNat * 256 + low.toNat) = none →
       exec (.ringRead tag [high, low]) s =
         .next (settle (answeredOnly { kind := 0x21, tag := tag, payload := [high, low] }
           { code := .notFound, rest := encNat 1 s.rru.records.length } s))) ∧
     (∀ x ∈ s.mbu.slices[n.toNat]?, n.toNat ≤ 31 →
       exec (.sliceRead tag [n]) s =
         .next (settle (answeredOnly { kind := 0x22, tag := tag, payload := [n] }
           { code := .ok, rest := encSlice x ++ encRatio x ++ sectionBytes 5 s } s)) ∧
         spells (sliceReadFields x s.mbu) (encSlice x ++ encRatio x ++ sectionBytes 5 s) = true) ∧
     (s.mbu.slices.length ≤ n.toNat → n.toNat ≤ 31 →
       exec (.sliceRead tag [n]) s =
         .next (settle (answeredOnly { kind := 0x22, tag := tag, payload := [n] }
           { code := .notFound, rest := sectionBytes 5 s } s))) ∧
     (31 < n.toNat →
       exec (.sliceRead tag [n]) s =
         .next (settle (answeredOnly { kind := 0x22, tag := tag, payload := [n] } (bare .badItem) s)))) ∧
    (s.clp.rxQueue = [] →
     exec (.nodeRead tag [BitVec.ofNat 8 (roleIndex x).val]) s =
         .next (settle (answeredOnly { kind := 0x23, tag := tag, payload := [BitVec.ofNat 8 (roleIndex x).val] }
           { code := .ok, rest := encNodeRead s x } s)) ∧
       spells (nodeReadFields s x) (encNodeRead s x) = true ∧
       (11 < n.toNat →
         exec (.nodeRead tag [n]) s =
           .next (settle (answeredOnly { kind := 0x23, tag := tag, payload := [n] } (bare .badItem) s))))

/-- PLAN DROP removes every plan from the queue, keeps the active plan, and answers the number removed; after it the
number a push must carry follows the active plan, without one the newest record, and without either is any. PLAN LIST
answers with the active plan's number, its REPEATED flag, the exhausted flag, and the count and numbers of the queue,
and changes nothing beside the reply and the silence timer. Both are taken in every phase. (Closure with the queue
empty, which repeats the plan, is the statement on ACCEPT. The REPEATED flag sent without an active plan, which the
rule does not fix, is left free here.) -/
def Obligations.PlanDropAndPlanList : Prop :=
  ∀ (tag : Byte) (n : Nat) (r : RingRecord) (s : State), s.clp.rxQueue = [] →
    (∃ u, exec (.planDrop tag []) s = .next (settle u) ∧
      u =
        { answeredOnly { kind := 0x08, tag := tag, payload := [] }
            { code := .ok, rest := encNat 1 s.rru.queue.length } s with
          rru := { s.rru with queue := [] } } ∧
      (∀ p ∈ s.rru.active, isExpected u.rru n = true ↔ n = p.plan.ring + 1 ∧ n ≤ 65535) ∧
      (s.rru.active = none → s.rru.records.getLast? = some r →
        (isExpected u.rru n = true ↔ n = r.plan.ring + 1 ∧ n ≤ 65535)) ∧
      (s.rru.active = none → s.rru.records = [] → isExpected u.rru n = true)) ∧
    ∃ repeated : Bool, (∀ p ∈ s.rru.active, repeated = p.repeated) ∧
      exec (.planList tag []) s =
        .next (settle (answeredOnly { kind := 0x09, tag := tag, payload := [] }
          { code := .ok
            rest :=
              encNat 2 ((s.rru.active.map fun p => p.plan.ring).getD 0) ++ encFlag repeated ++
                encFlag s.rru.exhausted ++ encNat 1 s.rru.queue.length ++
                s.rru.queue.flatMap fun p => encNat 2 p.ring } s))

/-! ## The cycle -/

/-- HOLD sets the CABIN entry to 0 and RELEASE to "no limit", in every phase, both answered OK; the effective rate,
the held indicator, the rate command and, in BORING, the hold count follow, and nothing else changes but the reply and
the silence timer: not the phase, not another entry, not the halt state. -/
def Obligations.HoldAndReleaseSetTheCabinEntry : Prop :=
  ∀ (tag : Byte) (s : State), s.clp.rxQueue = [] → RateLaw s →
    (∃ u, exec (.hold tag []) s = .next (settle u) ∧ CapsPosted { s.abu.caps with cabin := .rate 0 } s u ∧
      u.clp = answeredClp { kind := 0x0B, tag := tag, payload := [] } (bare .ok) s) ∧
    (∃ u, exec (.release tag []) s = .next (settle u) ∧ CapsPosted { s.abu.caps with cabin := .noLimit } s u ∧
      u.clp = answeredClp { kind := 0x0C, tag := tag, payload := [] } (bare .ok) s)

/-- START in READY with its conditions met opens the stroke: groups pushed and unlocked with the plan's trims,
cutterhead started, gate open, idle lines running under the plan's modes, new record, and the phase BORING at rate 0.
The grout ring held before is finished at once with its demand and deficit when none of its strokes is in flight, its
record then COMPLETE with RING_COMPLETE when that makes it whole, and else joins the end of the finishing list with
its demand, delivered total and number of strokes; the new ring's accounts begin at 0, the GROUT entry is posted, and
a line made RUNNING in FREE mode starts its period timer. The first slice is opened with index 0 at advance 0, after
the oldest FINAL one is retired when the queue is full; with a full queue and none FINAL its opening waits,
MUCK_QUEUE_FULL is queued and the MUCK entry is 0. START is refused outside READY, and in READY at the first condition
of its table that fails; a refusal changes nothing beside the reply and the silence timer. (The order of the blocks'
placings is free of this statement: log 6. So is a running or expired period timer of a HELD line: log 44.
GROUT_HALT's memory haltPosted is the model's, log 22; what closing an OPEN slice makes of its state is log 24.) -/
def Obligations.StartOpensTheStroke : Prop :=
  ∀ (tag : Byte) (p : ActivePlan) (a : Int) (s : State),
    (s.clp.rxQueue = [] → s.abu.phase = .ready →
     s.rru.active = some p → s.abu.advanceRef = some a → MayStart s → RateLaw s →
     (∀ r ∈ s.rru.records, r.status ≠ .opened ∧ r.plan.ring ≠ p.plan.ring) → s.rru.records.length ≤ 16 →
     ∃ u, exec (.start tag []) s = .next (settle u) ∧ StrokeOpened p a s u ∧ DriveStarted p s u ∧ AccountsOpened p a s u ∧
       FirstSliceOpened p s u ∧ OutsideKept s u ∧ Answered { kind := 0x0A, tag := tag, payload := [] } (bare .ok) s u) ∧
    (s.clp.rxQueue = [] →
     (s.abu.phase ≠ .ready →
       exec (.start tag []) s =
         .next (settle (answeredOnly { kind := 0x0A, tag := tag, payload := [] } (bare .refusedState) s))) ∧
     (s.abu.phase = .ready → ¬MayStart s →
       exec (.start tag []) s =
         .next (settle (answeredOnly { kind := 0x0A, tag := tag, payload := [] }
           (if (nodeOf s .face).state ≠ .live then { code := .refusedCondition, rest := [1] }
           else if (nodeOf s .cutter).state ≠ .live then { code := .refusedCondition, rest := [2] }
           else if (nodeOf s .screw).state ≠ .live then { code := .refusedCondition, rest := [3] }
           else if (nodeOf s .thrust).state ≠ .live then { code := .refusedCondition, rest := [4] }
           else if s.fbu.valid = false then { code := .refusedCondition, rest := [5] }
           else if ∃ g : Fin 7, (groupOf s g).state ≠ .holding then { code := .refusedCondition, rest := [6] }
           else bare .refusedFull) s))))

/-- END STROKE in BORING with the ring width advanced ends the stroke: the phase is STROKE_END at rate 0, pushing
groups hold, the cutterhead stops, the screw is 0 with its gate closed, running lines are idle, the OPEN slice is
closed with its actual length and its theoretical mass, or withdrawn when its length is 0, and the other slices stay,
unless all of the stroke's ring are FINAL, when they leave and its muck part is final; a waiting opening is dropped
and the MUCK entry posted anew; the tail marker is set, STROKE_ENDED is queued and the length posted. Before that it
is refused with reason 7, and outside BORING with REFUSED_STATE. (That the tail marker keeps the ring of its stroke is
the model's choice of log 23, and what closing a slice makes of its state that of log 24.) -/
def Obligations.EndStrokeEndsTheStroke : Prop :=
  ∀ (tag : Byte) (a : Int) (s : State), s.clp.rxQueue = [] → s.abu.advanceRef = some a →
    (s.abu.phase ≠ .boring →
      exec (.endStroke tag []) s =
        .next (settle (answeredOnly { kind := 0x0D, tag := tag, payload := [] } (bare .refusedState) s))) ∧
    (s.abu.phase = .boring → a - s.abu.strokeStart < (s.cfb.geometry.ringWidth : Int) →
      exec (.endStroke tag []) s =
        .next (settle (answeredOnly { kind := 0x0D, tag := tag, payload := [] }
          { code := .refusedCondition, rest := [7] } s))) ∧
    (s.abu.phase = .boring → RateLaw s → (s.cfb.geometry.ringWidth : Int) ≤ a - s.abu.strokeStart →
      (∃ u, exec (.endStroke tag []) s = .next (settle u) ∧ StrokeClosed (a - s.abu.strokeStart) s u ∧ JobsRested s u ∧
        OutsideKept s u ∧ Answered { kind := 0x0D, tag := tag, payload := [] } (bare .ok) s u))

/-- ENTER BUILD in STROKE_END with cutterhead STOPPED and a screw echo of 0 enters BUILDING, forms the build order
from the key sector, sets every sector EMPTY, the expected sector to the first of the order and the suspension count
to 0. It is refused first for the cutterhead with reason 8, then for the screw (an absent echo included) with reason
9, and outside STROKE_END with REFUSED_STATE. -/
def Obligations.EnterBuildFormsTheBuildOrder : Prop :=
  ∀ (tag : Byte) (p : ActivePlan) (s : State), s.clp.rxQueue = [] → s.rru.active = some p →
    (s.abu.phase ≠ .strokeEnd →
      exec (.enterBuild tag []) s =
        .next (settle (answeredOnly { kind := 0x0E, tag := tag, payload := [] } (bare .refusedState) s))) ∧
    (s.abu.phase = .strokeEnd → s.chm.state ≠ .stopped →
      exec (.enterBuild tag []) s =
        .next (settle (answeredOnly { kind := 0x0E, tag := tag, payload := [] }
          { code := .refusedCondition, rest := [8] } s))) ∧
    (s.abu.phase = .strokeEnd → s.chm.state = .stopped → s.fbu.echo.map Prod.fst ≠ some 0 →
      exec (.enterBuild tag []) s =
        .next (settle (answeredOnly { kind := 0x0E, tag := tag, payload := [] }
          { code := .refusedCondition, rest := [9] } s))) ∧
    (s.abu.phase = .strokeEnd → s.chm.state = .stopped → s.fbu.echo.map Prod.fst = some 0 → RateLaw s →
      (∃ u, exec (.enterBuild tag []) s = .next (settle u) ∧ BuildEntered p.plan.keySector s u ∧ OutsideKept s u ∧
        u.clp = answeredClp { kind := 0x0E, tag := tag, payload := [] } (bare .ok) s))

/-- SAFE STOP outside HALTED enters HALTED with cause REQUEST, brings every block to rest, and puts the safety-marked
set at the head of the command queue, in the order of log 30, the STOP drive order in the direction held (log 43). In
HALTED it counts a further cause, queues SAFE_STOP again with HALTED as its value, sends the safe-stop items again
from the present states, and keeps the phase, the resume phase and the recorded cause. -/
def Obligations.SafeStopHaltsTheMachine : Prop :=
  ∀ (tag : Byte) (s : State),
    (s.clp.rxQueue = [] → s.abu.phase ≠ .halted → RateLaw s →
     ∃ u, exec (.safeStop tag []) s = .next (settle u) ∧ HaltEntered .request s u ∧ SafeItemsPlaced s u ∧ JobsHalted s u ∧
       u.clp =
         haltTold .request s.abu.phase s (answeredClp { kind := 0x0F, tag := tag, payload := [] } (bare .ok) s)) ∧
    (s.clp.rxQueue = [] → s.abu.phase = .halted →
     ∃ u, exec (.safeStop tag []) s = .next (settle u) ∧
       u.abu =
         { s.abu with
           furtherCauses := min 255 (s.abu.furtherCauses + 1)
           groups := Vector.ofFn fun g : Fin 7 => stoppedGroup s.ms (groupOf s g) } ∧
       SafeItemsPlaced s u ∧
       u.clp = haltTold .request .halted s (answeredClp { kind := 0x0F, tag := tag, payload := [] } (bare .ok) s) ∧
       u = { s with abu := u.abu, mlp := u.mlp, clp := u.clp })

/-- RESUME is refused outside HALTED, and in HALTED at the first check of its table that fails. With its checks
passed, into any phase but BORING and into IDLE with no plan waiting: the halt is cleared, a build comes back
suspended, a trip is released, and no block but the screw and the grout lines acts. Into IDLE with a plan waiting the
queue's head becomes active and the phase READY. Into BORING at or beyond the stroke target the stroke ends at once in
STROKE_END with every block at rest. Into BORING below the stroke target: the CABIN entry is 0, the HOLDING groups are
pushed, the cutterhead starts in the direction held, the gate opens, IDLE lines run, and the stroke's figures and
locks stay. (That the tail marker set at the target keeps the ring of its stroke is the model's choice of log 23, and
what closing a slice makes of its state that of log 24.) -/
def Obligations.ResumeTakesUpTheHaltedPhase : Prop :=
  ∀ (tag : Byte) (p : Phase) (n : Nat) (head : Plan) (q : ActivePlan) (a : Int) (s : State),
    (s.clp.rxQueue = [] →
     (s.abu.phase ≠ .halted →
       exec (.resume tag []) s =
         .next (settle (answeredOnly { kind := 0x10, tag := tag, payload := [] } (bare .refusedState) s))) ∧
     (s.abu.phase = .halted → s.abu.resumePhase = some p → resumeFailure p s = some n →
       exec (.resume tag []) s =
         .next (settle (answeredOnly { kind := 0x10, tag := tag, payload := [] }
           { code := .refusedCondition, rest := [BitVec.ofNat 8 n] } s)))) ∧
    (s.clp.rxQueue = [] → s.abu.phase = .halted → s.abu.resumePhase = some p →
     resumeFailure p s = none → p ≠ .boring → p ≠ .halted → (p = .idle → s.rru.queue = []) → RateLaw s →
     ∃ u, exec (.resume tag []) s = .next (settle u) ∧
       u.abu =
         { s.abu with
           phase := if p = .building then .buildSuspended else p
           resumePhase := none, haltCause := none, furtherCauses := 0 } ∧
       u.clp =
         withEvent (.resumed (if p = .building then .buildSuspended else p)) (newestNumber s) s.ms
           (answeredClp { kind := 0x10, tag := tag, payload := [] } (bare .ok) s) ∧
       u.chm = (if s.abu.haltCause = some .cutterTrip then { s.chm with state := .stopped } else s.chm) ∧
       u.fbu = { s.fbu with screwSent := u.fbu.screwSent } ∧
       (∀ l : Fin 6, (lineOf u l).state = (lineOf s l).state) ∧ u.gru = { s.gru with lines := u.gru.lines } ∧
       u.mbu = s.mbu ∧ u.rru = s.rru ∧ OutsideKept s u) ∧
    (s.clp.rxQueue = [] → s.abu.phase = .halted →
     s.abu.resumePhase = some .idle → resumeFailure .idle s = none → s.rru.queue.head? = some head → RateLaw s →
     ∃ u, exec (.resume tag []) s = .next (settle u) ∧
       u.abu =
         { s.abu with
           phase := .ready, resumePhase := none, haltCause := none, furtherCauses := 0
           caps := { s.abu.caps with plan := head.rate, muck := u.abu.caps.muck }
           effective := u.abu.effective } ∧
       u.rru =
         { s.rru with
           queue := s.rru.queue.tail, active := some { plan := head, repeated := false }, exhausted := false } ∧
       u.clp =
         withEvent (.resumed .idle) (newestNumber s) s.ms
           (answeredClp { kind := 0x10, tag := tag, payload := [] } (bare .ok) s) ∧
       u.chm = (if s.abu.haltCause = some .cutterTrip then { s.chm with state := .stopped } else s.chm) ∧
       u.fbu = { s.fbu with screwSent := u.fbu.screwSent } ∧
       (∀ l : Fin 6, (lineOf u l).state = (lineOf s l).state) ∧ u.gru = { s.gru with lines := u.gru.lines } ∧
       u.mbu = s.mbu ∧ OutsideKept s u) ∧
    (s.clp.rxQueue = [] → s.abu.phase = .halted →
     s.abu.resumePhase = some .boring → resumeFailure .boring s = none → s.abu.advanceRef = some a →
     s.abu.strokeTarget ≤ a → s.rru.active = some q → RateLaw s →
     ∃ u, exec (.resume tag []) s = .next (settle u) ∧ StrokeClosed (a - s.abu.strokeStart) (pushedAgain s) u ∧
       JobsRested { s with chm := { s.chm with state := .starting, band := none } } u ∧
       u.abu.resumePhase = none ∧ u.abu.haltCause = none ∧ u.abu.furtherCauses = 0 ∧
       u.abu.caps.cabin = .rate 0 ∧ u.abu.caps.cutter = .rate 0 ∧ u.abu.effective = 0 ∧
       EventWaits (.resumed .boring) u ∧ OutsideKept s u ∧
       Answered { kind := 0x10, tag := tag, payload := [] } (bare .ok) s u) ∧
    (s.clp.rxQueue = [] → s.abu.phase = .halted →
     s.abu.resumePhase = some .boring → resumeFailure .boring s = none → s.abu.advanceRef = some a →
     a < s.abu.strokeTarget → s.rru.active = some q → RateLaw s →
     ∃ u, exec (.resume tag []) s = .next (settle u) ∧
       u.abu =
         { s.abu with
           phase := .boring, resumePhase := none, haltCause := none, furtherCauses := 0
           caps := { s.abu.caps with cabin := .rate 0, cutter := .rate 0 }
           effective := 0, rateSent := 0, held := firstZero { s.abu.caps with cabin := .rate 0, cutter := .rate 0 }
           groups := Vector.ofFn fun g : Fin 7 =>
             if (groupOf s g).state = .holding then
               { groupOf s g with state := .pushing, orderQueued := true, moveTimer := .stopped }
             else groupOf s g } ∧
       (∀ g : Fin 7, (groupOf s g).state = .holding → ItemWaits (.groupOrder g .push (q.plan.trims.getD g.val 0)) u) ∧
       u.chm =
         { s.chm with
           state := .starting, speedSent := startSpeed q s, band := none
           startTimer := .running s.ms s.cfb.cutter.startMs } ∧
       ItemWaits (.driveOrder .run (startSpeed q s) s.chm.direction) u ∧
       u.fbu = { s.fbu with gateSent := .open, screwSent := u.fbu.screwSent } ∧
       (s.fbu.gateSent = .open ∨ ItemWaits (.screwGate .open) u) ∧
       (∀ l : Fin 6, (lineOf u l).state = if (lineOf s l).state = .idle then .running else (lineOf s l).state) ∧
       u.gru = { s.gru with lines := u.gru.lines } ∧ u.mbu = s.mbu ∧ u.rru = s.rru ∧ OutsideKept s u ∧
       u.clp =
         withEvent (.resumed .boring) (newestNumber s) s.ms
           (answeredClp { kind := 0x10, tag := tag, payload := [] } (bare .ok) s))

/-! ## Settings, commissioning, RESTART -/

/-- COMMISSION is refused outside UNCONFIGURED and IDLE, and there at the first check of its table that fails, with
the reason and the role. With its checks passed it stores A_face and V_void, each rounded with an exact half upward,
answers them, and moves the phase: to READY with the queue's head plan active when one waits, else to IDLE. -/
def Obligations.CommissionStoresTheDerivedValues : Prop :=
  ∀ (tag : Byte) (r q : Role) (head : Plan) (s : State),
    (s.clp.rxQueue = [] →
     (s.abu.phase ≠ .unconfigured → s.abu.phase ≠ .idle →
       exec (.commission tag []) s =
         .next (settle (answeredOnly { kind := 0x03, tag := tag, payload := [] } (bare .refusedState) s))) ∧
     (s.abu.phase = .unconfigured ∨ s.abu.phase = .idle →
       (s.cfb.geometry.dc = 0 →
         exec (.commission tag []) s =
           .next (settle (answeredOnly { kind := 0x03, tag := tag, payload := [] }
             { code := .refusedCondition, rest := [15] } s))) ∧
       (s.cfb.geometry.dc ≠ 0 → ¬DiametersFit s →
         exec (.commission tag []) s =
           .next (settle (answeredOnly { kind := 0x03, tag := tag, payload := [] }
             { code := .refusedCondition, rest := [16] } s))) ∧
       (DiametersFit s → addressOf s r = 0 → (∀ x ∈ allRoles, (roleIndex x).val < (roleIndex r).val → addressOf s x ≠ 0) →
         exec (.commission tag []) s =
           .next (settle (answeredOnly { kind := 0x03, tag := tag, payload := [] }
             { code := .refusedCondition, rest := [17, BitVec.ofNat 8 (roleIndex r).val] } s))) ∧
       (DiametersFit s → (∀ x ∈ allRoles, addressOf s x ≠ 0) → (roleIndex q).val < (roleIndex r).val →
         addressOf s q = addressOf s r →
         (∀ x ∈ allRoles, ∀ y ∈ allRoles, (roleIndex x).val < (roleIndex y).val → addressOf s x = addressOf s y →
           (roleIndex q).val < (roleIndex x).val ∨ (x = q ∧ (roleIndex r).val ≤ (roleIndex y).val)) →
         exec (.commission tag []) s =
           .next (settle (answeredOnly { kind := 0x03, tag := tag, payload := [] }
             { code := .refusedCondition, rest := [18, BitVec.ofNat 8 (roleIndex r).val] } s))))) ∧
    (s.clp.rxQueue = [] → s.abu.phase = .unconfigured ∨ s.abu.phase = .idle →
     DiametersFit s → (∀ x ∈ allRoles, ∀ y ∈ allRoles, addressOf s x ≠ 0 ∧ (x ≠ y → addressOf s x ≠ addressOf s y)) →
     s.rru.active = none → RateLaw s →
     ∃ u, exec (.commission tag []) s = .next (settle u) ∧
       u.cfb = { s.cfb with aFace := some (areaOf s), vVoid := some (voidOf s) } ∧
       u.clp =
         answeredClp { kind := 0x03, tag := tag, payload := [] }
           { code := .ok, rest := encNat 4 (areaOf s) ++ encNat 2 (voidOf s) } s ∧
       (s.rru.queue = [] → u.abu = { s.abu with phase := .idle } ∧ u.rru = s.rru) ∧
       (s.rru.queue.head? = some head →
         u.abu.phase = .ready ∧ u.abu.caps.plan = head.rate ∧ u.rru.records = s.rru.records ∧
           u.rru.queue = s.rru.queue.tail ∧ u.rru.active = some { plan := head, repeated := false } ∧
           u.rru.exhausted = false) ∧
       u.abu.groups = s.abu.groups ∧ u.abu.sectors = s.abu.sectors ∧ u.chm = s.chm ∧ u.mbu = s.mbu ∧
       u.fbu = { s.fbu with screwSent := u.fbu.screwSent } ∧ u.gru = { s.gru with lines := u.gru.lines } ∧
       u.ms = s.ms ∧ u.pending = s.pending ∧ u.mlp = { s.mlp with queue := u.mlp.queue })

/-- RESTART outside UNCONFIGURED, IDLE and READY is refused and changes nothing beside the reply and the silence
timer. Taken, it returns every block to its restart values, keeps the settings, the plans and the records, and
finishes the accounts left open: the grout part of the grout ring and of each finishing ring with its demand and
deficit, and the muck part of each ring with a slice, are final with CUT unless they were final before, and a CLOSED
record thereby whole is COMPLETE. It empties the event queue before it acts, removes the frames waiting behind it, and
leaves no command item but a STOP for each pump with a stroke. (The order of the blocks is the model's choice of log
27; that haltPosted is clear afterwards is that of log 22, that the receivers and the frame on a line stay are logs 31
and 8, and the pressure settings held in force log 48.) -/
def Obligations.RestartReturnsTheMachineToRest : Prop :=
  ∀ (tag : Byte) (x : CabinTx) (ended : CabinFrame) (rest : List CabinFrame) (s : State),
    (s.clp.rxQueue = [] → s.abu.phase ≠ .unconfigured → s.abu.phase ≠ .idle →
     s.abu.phase ≠ .ready →
     exec (.restart tag []) s =
       .next (settle (answeredOnly { kind := 0x04, tag := tag, payload := [] } (bare .refusedState) s))) ∧
    (s.clp.rxQueue = [] → s.abu.phase = .unconfigured ∨ s.abu.phase = .idle ∨ s.abu.phase = .ready →
     HaltLaw s → PlanLaw s → NumberingLaw s → CompleteLaw s → FinishingLaw s → s.rru.records.length ≤ 16 →
     ∃ u, exec (.restart tag []) s = .next (settle u) ∧
       u.abu =
         { phase := s.abu.phase, resumePhase := none, haltCause := none, furtherCauses := 0, advanceRef := none
           strokeStart := s.abu.strokeStart, strokeTarget := s.abu.strokeTarget
           caps :=
             { plan := planRate s.rru.active, cabin := .noLimit, face := .noLimit, cutter := .noLimit, grout := .noLimit
               muck := .noLimit }
           effective := planRate s.rru.active, rateSent := 0, held := none, groups := State.reset.abu.groups
           buildOrder := none, expected := none, sectors := State.reset.abu.sectors, suspensions := 0 } ∧
       u.fbu = { State.reset.fbu with bias := s.fbu.bias } ∧ u.chm = State.reset.chm ∧
       u.gru =
         { State.reset.gru with
           lines := Vector.ofFn fun l : Fin 6 =>
             { lineOf State.reset l with
               share := s.cfb.grout.baseShares[l], period := s.cfb.grout.freePeriod
               pendingPeriod := s.cfb.grout.freePeriod, pMaxInForce := s.cfb.grout.pMax
               pResumeInForce := s.cfb.grout.pResume } } ∧
       u.mbu =
         { State.reset.mbu with
           belt := s.mbu.belt, unattributed := s.mbu.unattributed, negativeTravel := s.mbu.negativeTravel
           negativeMass := s.mbu.negativeMass } ∧
       u.rru = { s.rru with records := s.rru.records.map (cutRecord s) } ∧
       u.mlp =
         { s.mlp with
           nodes := State.reset.mlp.nodes, frozen := false, freezeTimer := .stopped
           queue := allLines.filterMap fun l =>
             if (lineOf s l).stroke.isSome then some { command := .pumpOrder l none, safety := false } else none } ∧
       (∀ e ∈ u.clp.events,
         ∃ r ∈ s.rru.records, e.body = .ringComplete r.plan.ring ∧ r.status = .closed ∧ (cutRecord s r).status = .complete) ∧
       (∀ r ∈ s.rru.records, r.status = .closed → (cutRecord s r).status = .complete →
         EventWaits (.ringComplete r.plan.ring) u) ∧
       u.clp =
         { answeredClp { kind := 0x04, tag := tag, payload := [] } (bare .ok) s with
           events := u.clp.events, lost := 0 } ∧
       u.cfb = s.cfb ∧ u.ms = s.ms ∧ u.pending = s.pending) ∧
    (s.abu.phase = .unconfigured ∨ s.abu.phase = .idle ∨ s.abu.phase = .ready → s.clp.tx = some x → x.isReply = true →
     s.clp.rxQueue = ended :: { kind := 0x04, tag := tag, payload := [] } :: rest →
     exec .cabinTxDone s = exec (.restart tag []) { s with clp := { s.clp with tx := none, rxQueue := [] } })

/-- SET is refused at the first of its checks that fails: an item that does not exist or is read only, a length that
does not fit the item, a phase in which the group's writes are not taken. SET of an item of one value stores the value
written when it lies in the item's range and that end of the range beyond which it lies; ring_width and clearance are
rounded down to 50 mm, status_period goes up to the next listed period, 0 marks a diameter or an address unset, and
the paired items are clamped further against the other member in force. It answers the stored value, with CLAMPED when
it differs from the value written, and every other item holds what it held. A GEOMETRY or NODE write in IDLE leads
back to UNCONFIGURED, a new node address resets that node's entry, a lower bias_max lowers the bias, a lower stroke_ml
the accumulators, and the pacing timer follows status_period. SET of base_shares stores six shares that sum to 1000,
those written when they do so already and else the scaled ones, and recomputes the effective shares. (That the issue
check of each line changed by a write of stroke_ml or base_shares follows is the model's choice of log 41; the six
values are unsigned by log 33.) -/
def Obligations.SetStoresTheClampedValue : Prop :=
  ∀ (tag group item : Byte) (rest : List Byte) (i : SettingItem) (v : List Byte) (s : State),
    (s.clp.rxQueue = [] →
     rest.length = 4 ∨ rest.length = 12 →
     (settingItem group.toNat item.toNat = none →
       exec (.set tag (group :: item :: rest)) s =
         .next (settle (answeredOnly { kind := 0x05, tag := tag, payload := group :: item :: rest } (bare .badItem) s))) ∧
     (settingItem group.toNat item.toNat = some i → i = .aFace ∨ i = .vVoid →
       exec (.set tag (group :: item :: rest)) s =
         .next (settle (answeredOnly { kind := 0x05, tag := tag, payload := group :: item :: rest } (bare .badItem) s))) ∧
     (settingItem group.toNat item.toNat = some i → i ≠ .aFace → i ≠ .vVoid →
       rest.length ≠ (if i = .baseShares then 12 else 4) →
       exec (.set tag (group :: item :: rest)) s =
         .next (settle (answeredOnly { kind := 0x05, tag := tag, payload := group :: item :: rest } (bare .badLength) s))) ∧
     (settingItem group.toNat item.toNat = some i → i ≠ .aFace → i ≠ .vVoid →
       rest.length = (if i = .baseShares then 12 else 4) →
       (group.toNat ≤ 1 ∧ s.abu.phase ≠ .unconfigured ∧ s.abu.phase ≠ .idle) ∨
         (group.toNat = 2 ∧ (s.abu.phase = .building ∨ s.abu.phase = .buildSuspended)) →
       exec (.set tag (group :: item :: rest)) s =
         .next (settle (answeredOnly { kind := 0x05, tag := tag, payload := group :: item :: rest }
           (bare .refusedState) s)))) ∧
    (s.clp.rxQueue = [] → v.length = 4 →
     settingItem group.toNat item.toNat = some i → i ≠ .aFace → i ≠ .vVoid → i ≠ .baseShares →
     (group.toNat ≤ 1 → s.abu.phase = .unconfigured ∨ s.abu.phase = .idle) →
     (group.toNat = 2 → s.abu.phase ≠ .building ∧ s.abu.phase ≠ .buildSuspended) → RateLaw s → SettingsLaw s →
     ∃ u, exec (.set tag (group :: item :: v)) s = .next (settle u) ∧ (getSetting u.cfb i).isSome = true ∧
       StoredFor s.cfb i (intAt v 0 4) ((getSetting u.cfb i).getD 0) ∧ OtherItemsKept i s u ∧
       u.abu = (if group.toNat ≤ 1 ∧ s.abu.phase = .idle then { s.abu with phase := .unconfigured } else s.abu) ∧
       u.fbu =
         { s.fbu with
           bias := if i = .biasMax then min s.fbu.bias u.cfb.face.biasMax else s.fbu.bias
           screwSent := u.fbu.screwSent } ∧
       (i = .strokeMl → ∀ l : Fin 6,
         ((lineOf s l).acc ≤ 4 * u.cfb.grout.strokeMl * 1000000 → lineOf u l = lineOf s l) ∧
         (4 * u.cfb.grout.strokeMl * 1000000 < (lineOf s l).acc →
           lineOf u l =
             lineOf
               (issueCheck l
                 (withLine { s with cfb := u.cfb } l
                   { lineOf s l with acc := 4 * u.cfb.grout.strokeMl * 1000000 })) l)) ∧
       (∀ l : Fin 6, (lineOf s l).stroke = none → ∀ k ∈ (lineOf u l).stroke,
         ItemWaits (.pumpOrder l (some (k.kind, k.volume))) u) ∧
       u.gru = { s.gru with lines := u.gru.lines } ∧
       (i ≠ .strokeMl → s.abu.phase ≠ .idle → u.gru = s.gru) ∧
       (∀ r ∈ allRoles,
         nodeOf u r =
           if i = .address r ∧ addressOf u r ≠ addressOf s r then
             { nodeOf s r with
               state := .unseen, lastSequence := none, lastArrival := none, mismatchRun := 0, silenceTimer := .stopped }
           else nodeOf s r) ∧
       u.mlp = { s.mlp with nodes := u.mlp.nodes, queue := u.mlp.queue } ∧
       u.clp =
         { answeredClp { kind := 0x05, tag := tag, payload := group :: item :: v }
             { code := if getSetting u.cfb i = some (intAt v 0 4) then .ok else .clamped
               rest := [group, item] ++ encInt 4 ((getSetting u.cfb i).getD 0) } s with
           pacingTimer :=
             if i = .statusPeriod ∧ u.cfb.link.statusPeriod = 0 then .stopped
             else if i = .statusPeriod ∧ s.cfb.link.statusPeriod = 0 then .running s.ms u.cfb.link.statusPeriod
             else s.clp.pacingTimer
           due := s.clp.due && !(decide (i = .statusPeriod) && u.cfb.link.statusPeriod == 0) } ∧
       u.chm = s.chm ∧ u.mbu = s.mbu ∧ u.rru = s.rru ∧ u.ms = s.ms ∧ u.pending = s.pending) ∧
    (s.clp.rxQueue = [] → v.length = 12 →
     ∃ u, exec (.set tag (5 :: 9 :: v)) s = .next (settle u) ∧ u.cfb.grout.baseShares.toList.sum = 1000 ∧
       u.cfb = { s.cfb with grout := { s.cfb.grout with baseShares := u.cfb.grout.baseShares } } ∧
       (((List.range 6).map fun l => natAt v (2 * l) 2).sum = 1000 →
         u.cfb.grout.baseShares.toList = (List.range 6).map fun l => natAt v (2 * l) 2) ∧
       (((List.range 6).map fun l => natAt v (2 * l) 2).sum = 0 →
         u.cfb.grout.baseShares = #v[220, 180, 100, 100, 180, 220]) ∧
       (((List.range 6).map fun l => natAt v (2 * l) 2).sum ≠ 0 → ∀ l : Fin 6,
         u.cfb.grout.baseShares[l] =
           scaledShare v l.val + if l.val < 1000 - ((List.range 6).map (scaledShare v)).sum then 1 else 0) ∧
       (∀ l : Fin 6, (lineOf u l).share = effectiveShare u.cfb.grout.baseShares (lineBlocked s) l) ∧
       u.clp.reply =
         some (replyTo { kind := 0x05, tag := tag, payload := 5 :: 9 :: v }
           { code :=
               if u.cfb.grout.baseShares.toList = (List.range 6).map (fun l => natAt v (2 * l) 2) then .ok else .clamped
             rest := [5, 9] ++ u.cfb.grout.baseShares.toList.flatMap (encNat 2) }) ∧
       (∀ l : Fin 6,
         ((lineOf u l).share = (lineOf s l).share → u.cfb.grout.baseShares[l] = s.cfb.grout.baseShares[l] →
           lineOf u l = lineOf s l) ∧
         ((lineOf u l).share ≠ (lineOf s l).share ∨ u.cfb.grout.baseShares[l] ≠ s.cfb.grout.baseShares[l] →
           lineOf u l = lineOf (issueCheck l (withLine s l { lineOf s l with share := (lineOf u l).share })) l)) ∧
       (∀ l : Fin 6, (lineOf s l).stroke = none → ∀ k ∈ (lineOf u l).stroke,
         ItemWaits (.pumpOrder l (some (k.kind, k.volume))) u) ∧
       u.fbu = s.fbu ∧ u.chm = s.chm ∧
       u.mbu = s.mbu ∧ u.rru.queue = s.rru.queue ∧ u.rru.active = s.rru.active ∧
       u.abu =
         { s.abu with
           caps := { s.abu.caps with grout := u.abu.caps.grout }
           effective := u.abu.effective, held := u.abu.held, rateSent := u.abu.rateSent } ∧
       u.mlp = { s.mlp with queue := u.mlp.queue } ∧ u.ms = s.ms ∧ u.pending = s.pending)

/-! ## Plans -/

/-- A pushed plan whose codes and counts are those the plan's rule allows is offered with every numeric field and
every trim as it was written when in its range and at the nearer end when beyond it, with the direction and the line
modes that its codes name, and with as many trims as it counts; any other is not offered. It counts as clamped exactly
when a numeric field or a counted trim lies outside its range. -/
def Obligations.OfferedPlansLieInTheirRanges : Prop :=
  ∀ (p : List Byte), p.length = 38 →
    ((offeredPlan p).isSome ↔
      (byteAt p 9).toNat ≤ 2 ∧
        ((byteAt p 16).toNat = 0 ∨
          (byteAt p 16).toNat = 6 ∧ ∀ l : Fin 6, (byteAt p (17 + l.val)).toNat ≤ 1) ∧
        (byteAt p 23).toNat ≤ 7) ∧
    ∀ q ∈ offeredPlan p,
      ClampedTo 1 65535 (natAt p 0 2) q.ring ∧ ClampedTo 0 6 (byteAt p 2).toNat q.keySector.val ∧
        ClampedTo 5 120 (natAt p 3 2) q.rate ∧ ClampedTo 0 800 (natAt p 5 2) q.target ∧
        ClampedTo 0 400 (natAt p 7 2) q.cutterSpeed ∧ ClampedTo 1000 2000 (natAt p 10 2) q.fill ∧
        ClampedTo 1200 2800 (natAt p 12 2) q.density ∧ ClampedTo 0 5000 (natAt p 14 2) q.additive ∧
        (q.direction = .cw ↔ byteAt p 9 = 0) ∧ (q.direction = .ccw ↔ byteAt p 9 = 1) ∧
        (q.direction = .auto ↔ byteAt p 9 = 2) ∧ (q.lineModes = none ↔ (byteAt p 16).toNat = 0) ∧
        (∀ m ∈ q.lineModes, ∀ l : Fin 6,
          (m[l] = .locked ↔ byteAt p (17 + l.val) = 0) ∧ (m[l] = .free ↔ byteAt p (17 + l.val) = 1)) ∧
        q.trims.length = (byteAt p 23).toNat ∧
        (∀ i : Fin 7, i.val < q.trims.length → ClampedTo (-300) 300 (intAt p (24 + 2 * i.val) 2) (q.trims.getD i.val 0)) ∧
        (planClamped p = false ↔
          InRange 1 65535 (natAt p 0 2) ∧ InRange 0 6 (byteAt p 2).toNat ∧ InRange 5 120 (natAt p 3 2) ∧
            InRange 0 800 (natAt p 5 2) ∧ InRange 0 400 (natAt p 7 2) ∧ InRange 1000 2000 (natAt p 10 2) ∧
            InRange 1200 2800 (natAt p 12 2) ∧ InRange 0 5000 (natAt p 14 2) ∧
            ∀ i : Fin 7, i.val < (byteAt p 23).toNat → InRange (-300) 300 (intAt p (24 + 2 * i.val) 2))

/-- PLAN PUSH is judged in the order of its table: BAD_ITEM, the replacement of a REPEATED active plan in READY,
REFUSED_FULL, REFUSED_SEQUENCE with the expected number, else the plan joins the queue. A plan pushed in IDLE becomes
active and the phase READY; one pushed on a REPEATED active plan of its number in READY replaces it whole. In both the
PLAN entry takes the plan's rate. -/
def Obligations.PlanPushIsJudgedInOrder : Prop :=
  ∀ (tag : Byte) (p : List Byte) (q : Plan) (s : State),
    (s.clp.rxQueue = [] → p.length = 38 →
     (offeredPlan p = none →
       exec (.planPush tag p) s =
         .next (settle (answeredOnly { kind := 0x07, tag := tag, payload := p } (bare .badItem) s))) ∧
     (offeredPlan p = some q → ¬MayReplace q s → s.rru.queue.length = 8 →
       exec (.planPush tag p) s =
         .next (settle (answeredOnly { kind := 0x07, tag := tag, payload := p } (bare .refusedFull) s))) ∧
     (offeredPlan p = some q → ¬MayReplace q s → s.rru.queue.length < 8 → ¬MayFollow q s →
       exec (.planPush tag p) s =
         .next (settle (answeredOnly { kind := 0x07, tag := tag, payload := p }
           { code := .refusedSequence, rest := encNat 2 (if 65535 ≤ lastNumber s then 0 else lastNumber s + 1) } s))) ∧
     (offeredPlan p = some q → ¬MayReplace q s → s.rru.queue.length < 8 → MayFollow q s → s.abu.phase ≠ .idle →
       exec (.planPush tag p) s =
         .next (settle
           { answeredOnly { kind := 0x07, tag := tag, payload := p } (bare (if planClamped p then .clamped else .ok)) s with
             rru := { s.rru with queue := s.rru.queue ++ [q] } }))) ∧
    (s.clp.rxQueue = [] → p.length = 38 → offeredPlan p = some q →
     RateLaw s →
     (¬MayReplace q s → s.rru.queue = [] → MayFollow q s → s.abu.phase = .idle →
       (∃ u, exec (.planPush tag p) s = .next (settle u) ∧ u.abu.phase = .ready ∧ u.abu.caps.plan = q.rate ∧
         u.rru = { s.rru with active := some { plan := q, repeated := false }, exhausted := false } ∧
         u.clp =
           answeredClp { kind := 0x07, tag := tag, payload := p } (bare (if planClamped p then .clamped else .ok)) s ∧
         u.abu.groups = s.abu.groups ∧ u.chm = s.chm ∧ u.mbu = s.mbu ∧
         u.fbu = { s.fbu with screwSent := u.fbu.screwSent } ∧ u.gru = { s.gru with lines := u.gru.lines } ∧
         OutsideKept s u)) ∧
     (MayReplace q s →
       (∃ u, exec (.planPush tag p) s = .next (settle u) ∧ u.abu.phase = .ready ∧ u.abu.caps.plan = q.rate ∧
         u.rru = { s.rru with active := some { plan := q, repeated := false } } ∧
         u.clp =
           answeredClp { kind := 0x07, tag := tag, payload := p }
             { code := .replaced, rest := [if planClamped p then 1 else 0] } s ∧
         u.abu.groups = s.abu.groups ∧ u.chm = s.chm ∧ u.mbu = s.mbu ∧ u.fbu = s.fbu ∧ u.gru = s.gru ∧ OutsideKept s u)))

/-! ## The build -/

/-- RETRACT and RESEAT are refused at the first check of their tables that fails, REFUSED_HOLDING with the reason,
F_req and the force of the other groups; a refusal changes nothing beside the reply and the silence timer. RETRACT of
the expected, empty sector's group and RESEAT of an OFFSET sector's group, with their checks passed: the group is
RETRACTING with its RETRACT waiting and its move timer at 60,000 ms, and nothing else changes. -/
def Obligations.RetractAndReseatWithdrawTheGroup : Prop :=
  ∀ (tag n : Byte) (g : Fin 7) (s : State),
    (s.clp.rxQueue = [] →
     (s.abu.phase ≠ .building →
       exec (.retract tag [n]) s =
           .next (settle (answeredOnly { kind := 0x11, tag := tag, payload := [n] } (bare .refusedState) s)) ∧
         exec (.reseat tag [n]) s =
           .next (settle (answeredOnly { kind := 0x12, tag := tag, payload := [n] } (bare .refusedState) s))) ∧
     (s.abu.phase = .building → 6 < n.toNat →
       exec (.retract tag [n]) s =
           .next (settle (answeredOnly { kind := 0x11, tag := tag, payload := [n] } (bare .badItem) s)) ∧
         exec (.reseat tag [n]) s =
           .next (settle (answeredOnly { kind := 0x12, tag := tag, payload := [n] } (bare .badItem) s))) ∧
     (s.abu.phase = .building → n = BitVec.ofNat 8 g.val →
       (∀ a ∈ withdrawalAnswer (decide (s.abu.expected = some g ∧ (sectorOf s g).state = .empty)) s g,
         exec (.retract tag [n]) s =
           .next (settle (answeredOnly { kind := 0x11, tag := tag, payload := [n] } a s))) ∧
       ∀ a ∈ withdrawalAnswer (decide ((sectorOf s g).state = .offset)) s g,
         exec (.reseat tag [n]) s =
           .next (settle (answeredOnly { kind := 0x12, tag := tag, payload := [n] } a s)))) ∧
    (s.clp.rxQueue = [] → s.abu.phase = .building → (groupOf s g).lock = false →
     (groupOf s g).state = .holding → WithdrawalHolds s g →
     (s.abu.expected = some g → (sectorOf s g).state = .empty →
       exec (.retract tag [BitVec.ofNat 8 g.val]) s =
         .next (settle (withdrawn g
           (answeredOnly { kind := 0x11, tag := tag, payload := [BitVec.ofNat 8 g.val] } (bare .ok) s)))) ∧
     ((sectorOf s g).state = .offset →
       exec (.reseat tag [BitVec.ofNat 8 g.val]) s =
         .next (settle (withdrawn g
           (answeredOnly { kind := 0x12, tag := tag, payload := [BitVec.ofNat 8 g.val] } (bare .ok) s)))))

/-- ACCEPT is refused at the first check of its table that fails; a refusal changes nothing beside the reply and the
silence timer. ACCEPT of an OFFSET sector whose group stands on it: the sector is ACCEPTED with its gap kept, the
group is locked, and the expected sector moves on, with the next-sector item when it changes; when that does not
complete the ring, nothing else changes. -/
def Obligations.AcceptTakesTheSectorIntoTheRing : Prop :=
  ∀ (tag n : Byte) (k : Fin 7) (s : State),
    (s.clp.rxQueue = [] →
     (s.abu.phase ≠ .building →
       exec (.accept tag [n]) s =
         .next (settle (answeredOnly { kind := 0x13, tag := tag, payload := [n] } (bare .refusedState) s))) ∧
     (s.abu.phase = .building → 6 < n.toNat →
       exec (.accept tag [n]) s =
         .next (settle (answeredOnly { kind := 0x13, tag := tag, payload := [n] } (bare .badItem) s))) ∧
     (s.abu.phase = .building → n = BitVec.ofNat 8 k.val → (sectorOf s k).state ≠ .offset →
       exec (.accept tag [n]) s =
         .next (settle (answeredOnly { kind := 0x13, tag := tag, payload := [n] } (bare .refusedOrder) s))) ∧
     (s.abu.phase = .building → n = BitVec.ofNat 8 k.val → (sectorOf s k).state = .offset →
       (groupOf s k).state ≠ .holding →
       exec (.accept tag [n]) s =
         .next (settle (answeredOnly { kind := 0x13, tag := tag, payload := [n] }
           { code := .refusedCondition, rest := [11] } s)))) ∧
    (s.clp.rxQueue = [] → s.abu.phase = .building →
     (sectorOf s k).state = .offset → (groupOf s k).state = .holding →
     ¬(∃ p ∈ s.rru.active,
         (p.plan.keySector = k ∨ (sectorOf s p.plan.keySector).state = .placed ∨
           (sectorOf s p.plan.keySector).state = .accepted) ∧ ∀ g : Fin 7, (groupOf s g).state = .holding) →
     ∃ u, exec (.accept tag [BitVec.ofNat 8 k.val]) s = .next (settle u) ∧
       u.abu =
         { s.abu with
           sectors := s.abu.sectors.set k { sectorOf s k with state := .accepted }
           groups := s.abu.groups.set k { groupOf s k with lock := true }
           expected := expectedSector u } ∧
       u.mlp = queueAfter (expectedSector u != s.abu.expected) (.nextSector (expectedSector u)) s ∧
       u.clp = answeredClp { kind := 0x13, tag := tag, payload := [BitVec.ofNat 8 k.val] } (bare .ok) s ∧
       u = { s with abu := u.abu, mlp := u.mlp, clp := u.clp })

/-- ACCEPT that completes the ring closes it: the record is CLOSED, or COMPLETE with its other parts final, with the
build part and the bias, no sector is expected, the locks stay, and the next plan is the queue's head, else the active
plan repeated under the next number, else none. RING_CLOSED is queued, and RING_COMPLETE when the record is COMPLETE. -/
def Obligations.AcceptOfTheLastSectorClosesTheRing : Prop :=
  ∀ (tag : Byte) (k : Fin 7) (p : ActivePlan) (r : RingRecord) (s : State), s.clp.rxQueue = [] →
    s.abu.phase = .building → (sectorOf s k).state = .offset → s.rru.active = some p → p.plan.keySector = k →
    (∀ g : Fin 7, (groupOf s g).state = .holding) → s.abu.expected = some k →
    (∀ x : Fin 7, x ≠ k → (sectorOf s x).state = .placed ∨ (sectorOf s x).state = .accepted) →
    s.rru.records.getLast? = some r → r.status = .opened → r.plan.ring = p.plan.ring → RateLaw s → HaltLaw s → PlanLaw s →
    NumberingLaw s → OpenLaw s → CompleteLaw s →
    ∃ u, exec (.accept tag [BitVec.ofNat 8 k.val]) s = .next (settle u) ∧
      RingClosed p r (s.abu.sectors.set k { sectorOf s k with state := .accepted }) s u ∧
      (∀ g : Fin 7, groupOf u g = if g = k then { groupOf s g with lock := true } else groupOf s g) ∧
      OutsideKept s u ∧ Answered { kind := 0x13, tag := tag, payload := [BitVec.ofNat 8 k.val] } (bare .ok) s u

/-! ## Screw, cutterhead, lines and freeze by hand -/

/-- SCREW MANUAL stores the manual value clamped to 1000 and forms the command from it, 0 in HALTED; SCREW AUTO
returns the loop, its trim seeded in BORING so that the command goes on from the manual value, and in AUTO it changes
nothing. FACE MODE sets the convergence mode, BAD_ITEM for an unknown code; BIAS CLEAR sets the bias to 0. CUTTER
MANUAL stores the manual speed clamped to 400 and CUTTER AUTO returns to the plan's speed; a turning cutterhead gets a
new RUN order in the direction held when the speed differs from the one sent. None changes anything else. -/
def Obligations.ScrewFaceAndCutterModes : Prop :=
  ∀ (tag high low n : Byte) (s : State),
    (s.clp.rxQueue = [] → s.cfb.face.screwMin ≤ s.cfb.face.screwMax →
     (∃ u, exec (.screwManual tag [high, low]) s = .next (settle u) ∧
       u.fbu =
         { s.fbu with
           screwMode := .manual, manual := min 1000 (high.toNat * 256 + low.toNat)
           screwSent := manualCommand (min 1000 (high.toNat * 256 + low.toNat)) s } ∧
       u.mlp =
         queueAfter (manualCommand (min 1000 (high.toNat * 256 + low.toNat)) s != s.fbu.screwSent)
           (.screwSpeed (manualCommand (min 1000 (high.toNat * 256 + low.toNat)) s)) s ∧
       u =
         { answeredOnly { kind := 0x14, tag := tag, payload := [high, low] }
             (bare (if 1000 < high.toNat * 256 + low.toNat then .clamped else .ok)) s with
           fbu := u.fbu, mlp := u.mlp }) ∧
     (s.fbu.screwMode = .auto →
       exec (.screwAuto tag []) s =
         .next (settle (answeredOnly { kind := 0x15, tag := tag, payload := [] } (bare .ok) s))) ∧
     (s.fbu.screwMode = .manual →
       (∃ u, exec (.screwAuto tag []) s = .next (settle u) ∧
         u.fbu =
           { s.fbu with
             screwMode := .auto
             trim :=
               if s.abu.phase = .boring then
                 max (-500) (min 500 ((min s.cfb.face.screwMax s.fbu.manual : Nat) - (feedForward s : Int)))
               else s.fbu.trim
             screwSent := autoCommand u.fbu.trim s } ∧
         u.mlp = queueAfter (autoCommand u.fbu.trim s != s.fbu.screwSent) (.screwSpeed (autoCommand u.fbu.trim s)) s ∧
         u = { answeredOnly { kind := 0x15, tag := tag, payload := [] } (bare .ok) s with fbu := u.fbu, mlp := u.mlp }))) ∧
    (s.clp.rxQueue = [] →
     (n.toNat ≤ 1 →
       exec (.faceMode tag [n]) s =
         .next (settle
           { answeredOnly { kind := 0x16, tag := tag, payload := [n] } (bare .ok) s with
             fbu := { s.fbu with convergence := if n.toNat = 0 then .slow else .fast } })) ∧
     (1 < n.toNat →
       exec (.faceMode tag [n]) s =
         .next (settle (answeredOnly { kind := 0x16, tag := tag, payload := [n] } (bare .badItem) s))) ∧
     exec (.biasClear tag []) s =
       .next (settle
         { answeredOnly { kind := 0x17, tag := tag, payload := [] } (bare .ok) s with fbu := { s.fbu with bias := 0 } })) ∧
    (s.clp.rxQueue = [] →
     exec (.cutterManual tag [high, low]) s =
         .next (settle
           { answeredOnly { kind := 0x18, tag := tag, payload := [high, low] }
               (bare (if 400 < high.toNat * 256 + low.toNat then .clamped else .ok)) s with
             chm :=
               { s.chm with
                 mode := .manual, manualSpeed := min 400 (high.toNat * 256 + low.toNat)
                 speedSent :=
                   if CutterTurns s then min 400 (high.toNat * 256 + low.toNat) else s.chm.speedSent }
             mlp :=
               queueAfter (decide (CutterTurns s) && min 400 (high.toNat * 256 + low.toNat) != s.chm.speedSent)
                 (.driveOrder .run (min 400 (high.toNat * 256 + low.toNat)) s.chm.direction) s }) ∧
       exec (.cutterAuto tag []) s =
         .next (settle
           { answeredOnly { kind := 0x19, tag := tag, payload := [] } (bare .ok) s with
             chm := { s.chm with mode := .auto, speedSent := if CutterTurns s then planSpeed s else s.chm.speedSent }
             mlp :=
               queueAfter (decide (CutterTurns s) && planSpeed s != s.chm.speedSent)
                 (.driveOrder .run (planSpeed s) s.chm.direction) s }))

/-- LINE PAUSE pauses any line but a BLOCKED one, and CONTINUE returns a PAUSED line to service; in every other state
they are refused, and a line above 5 is BAD_ITEM for all five line requests. LINE CLEAR starts the flush of a BLOCKED
line whose node is LIVE and returns it to the share; LINE TOPUP gives an IDLE or RUNNING line 1 to 20 strokes; LINE
MODE sets the pending mode and, for FREE, the pending period. CONTINUE, TOPUP and MODE are followed by the line's
issue check, CLEAR by that of every line whose record it changes, a share formed anew included (the model's choice of
log 41), and all are refused as their rules say. -/
def Obligations.LineRequestsActOnOneLine : Prop :=
  ∀ (tag n : Byte) (l : Fin 6) (a b c d e : Byte) (s : State),
    (s.clp.rxQueue = [] →
     (5 < n.toNat →
       (∀ k ∈ [Instr.linePause tag [n], .lineContinue tag [n], .lineClear tag [n], .lineTopup tag [n, 1],
           .lineMode tag [n, 0, 0, 0, 0, 0]],
         ∀ f ∈ requestFrame k, exec k s = .next (settle (answeredOnly f (bare .badItem) s)))) ∧
     ((lineOf s l).state = .blocked →
       exec (.linePause tag [BitVec.ofNat 8 l.val]) s =
         .next (settle
           (answeredOnly { kind := 0x1A, tag := tag, payload := [BitVec.ofNat 8 l.val] } (bare .refusedState) s))) ∧
     ((lineOf s l).state ≠ .blocked →
       exec (.linePause tag [BitVec.ofNat 8 l.val]) s =
         .next (settle
           { answeredOnly { kind := 0x1A, tag := tag, payload := [BitVec.ofNat 8 l.val] } (bare .ok) s with
             gru := { s.gru with
               lines := s.gru.lines.set l
                 { lineOf s l with
                   state := .paused
                   flush := if (lineOf s l).state = .flushing then 0 else (lineOf s l).flush
                   periodTimer :=
                     if (lineOf s l).state = .paused then (lineOf s l).periodTimer else .stopped } } })) ∧
     ((lineOf s l).state ≠ .paused →
       exec (.lineContinue tag [BitVec.ofNat 8 l.val]) s =
         .next (settle
           (answeredOnly { kind := 0x1B, tag := tag, payload := [BitVec.ofNat 8 l.val] } (bare .refusedState) s))) ∧
     ((lineOf s l).state = .paused →
       exec (.lineContinue tag [BitVec.ofNat 8 l.val]) s =
         .next (settle (issueCheck l
           { answeredOnly { kind := 0x1B, tag := tag, payload := [BitVec.ofNat 8 l.val] } (bare .ok) s with
             gru := { s.gru with
               lines := s.gru.lines.set l
                 { lineOf s l with
                   state := if s.abu.phase = .boring then .running else .idle
                   periodTimer :=
                     if s.abu.phase ≠ .boring then .stopped
                     else if (lineOf s l).mode = .free then .running s.ms (lineOf s l).period
                     else (lineOf s l).periodTimer } } })))) ∧
    (s.clp.rxQueue = [] →
     ((lineOf s l).state ≠ .blocked →
       exec (.lineClear tag [BitVec.ofNat 8 l.val]) s =
         .next (settle
           (answeredOnly { kind := 0x1C, tag := tag, payload := [BitVec.ofNat 8 l.val] } (bare .refusedState) s))) ∧
     ((lineOf s l).state = .blocked → (nodeOf s (.grout l)).state ≠ .live →
       exec (.lineClear tag [BitVec.ofNat 8 l.val]) s =
         .next (settle (answeredOnly { kind := 0x1C, tag := tag, payload := [BitVec.ofNat 8 l.val] }
           { code := .refusedCondition, rest := [14] } s))) ∧
     ((lineOf s l).state = .blocked → (nodeOf s (.grout l)).state = .live →
       exec (.lineClear tag [BitVec.ofNat 8 l.val]) s =
         .next (settle (issueChanged s (recomputeShares
           { answeredOnly { kind := 0x1C, tag := tag, payload := [BitVec.ofNat 8 l.val] } (bare .ok) s with
             gru := { s.gru with
               lines := s.gru.lines.set l
                 { lineOf s l with
                   state := .flushing, cause := none, flush := s.cfb.grout.flushStrokes, periodTimer := .stopped } } })))) ∧
     ((lineOf s l).state ≠ .idle → (lineOf s l).state ≠ .running →
       exec (.lineTopup tag [BitVec.ofNat 8 l.val, a]) s =
         .next (settle
           (answeredOnly { kind := 0x1D, tag := tag, payload := [BitVec.ofNat 8 l.val, a] } (bare .refusedState) s))) ∧
     ((lineOf s l).state = .idle ∨ (lineOf s l).state = .running →
       exec (.lineTopup tag [BitVec.ofNat 8 l.val, a]) s =
         .next (settle (issueCheck l
           { answeredOnly { kind := 0x1D, tag := tag, payload := [BitVec.ofNat 8 l.val, a] }
               (bare (if 1 ≤ a.toNat ∧ a.toNat ≤ 20 then .ok else .clamped)) s with
             gru := { s.gru with
               lines := s.gru.lines.set l { lineOf s l with topUp := max 1 (min 20 a.toNat) } } }))) ∧
     (1 < a.toNat →
       exec (.lineMode tag [BitVec.ofNat 8 l.val, a, b, c, d, e]) s =
         .next (settle (answeredOnly { kind := 0x1E, tag := tag, payload := [BitVec.ofNat 8 l.val, a, b, c, d, e] }
           (bare .badItem) s))) ∧
     exec (.lineMode tag [BitVec.ofNat 8 l.val, 0, b, c, d, e]) s =
         .next (settle (issueCheck l
           { answeredOnly { kind := 0x1E, tag := tag, payload := [BitVec.ofNat 8 l.val, 0, b, c, d, e] } (bare .ok) s with
             gru := { s.gru with lines := s.gru.lines.set l { lineOf s l with pendingMode := .locked } } })) ∧
       exec (.lineMode tag [BitVec.ofNat 8 l.val, 1, b, c, d, e]) s =
         .next (settle (issueCheck l
           { answeredOnly { kind := 0x1E, tag := tag, payload := [BitVec.ofNat 8 l.val, 1, b, c, d, e] }
               (bare
                 (if fromBigEndian [b, c, d, e] = 0 ∨
                     (5000 ≤ fromBigEndian [b, c, d, e] ∧ fromBigEndian [b, c, d, e] ≤ 600000) then .ok
                 else .clamped)) s with
             gru := { s.gru with
               lines := s.gru.lines.set l
                 { lineOf s l with
                   pendingMode := .free
                   pendingPeriod :=
                     if fromBigEndian [b, c, d, e] = 0 then s.cfb.grout.freePeriod
                     else max 5000 (min 600000 (fromBigEndian [b, c, d, e])) } } })))

/-- What an issue check does: with no stroke in flight, outside HALTED and with the line's node LIVE, the first row of
the issue table that applies takes a top-up, a stroke's volume of the accumulator, an expired period or a flush
stroke, puts the stroke in flight for the grout ring and places its order; else it changes nothing. (The P_max that a
top-up asks for is the one in force at the line's latest sample, log 48.) -/
def Obligations.IssueCheckFollowsTheIssueTable : Prop :=
  ∀ (l : Fin 6) (s : State),
    (¬((lineOf s l).stroke = none ∧ s.abu.phase ≠ .halted ∧ (nodeOf s (.grout l)).state = .live) ∨ issuing s l = none →
      issueCheck l s = s) ∧
    ((lineOf s l).stroke = none → s.abu.phase ≠ .halted → (nodeOf s (.grout l)).state = .live →
      ∀ k ∈ issuing s l,
        issueCheck l s =
          { s with
            gru := { s.gru with
              lines := s.gru.lines.set l
                { k.2 with
                  stroke :=
                    some
                      { kind := k.1, volume := s.cfb.grout.strokeMl, ring := s.gru.groutRing, issued := s.ms, sent := false }
                  mode := (lineOf s l).pendingMode, period := (lineOf s l).pendingPeriod
                  periodTimer :=
                    if (lineOf s l).pendingMode = .locked then .stopped
                    else if (lineOf s l).state = .running then .running s.ms (lineOf s l).pendingPeriod
                    else (lineOf s l).periodTimer } }
            mlp := queueAfter true (.pumpOrder l (some (k.1, s.cfb.grout.strokeMl))) s })

/-- FREEZE sets the freeze flag with its timer at 10,000 ms; UNFREEZE clears a set flag and stops the timer, and with
the flag clear changes nothing; the expiry clears the flag and queues FREEZE_ENDED with TIMEOUT; an expiry without the
timer running does nothing (log 4). -/
def Obligations.FreezeUnfreezeAndTheirTimer : Prop :=
  ∀ (tag : Byte) (s : State),
    (s.clp.rxQueue = [] →
      exec (.freeze tag []) s =
          .next (settle
            { answeredOnly { kind := 0x1F, tag := tag, payload := [] } (bare .ok) s with
              mlp := { s.mlp with frozen := true, freezeTimer := .running s.ms 10000 } }) ∧
        (s.mlp.frozen = true →
          exec (.unfreeze tag []) s =
            .next (settle
              { answeredOnly { kind := 0x20, tag := tag, payload := [] } (bare .ok) s with
                mlp := { s.mlp with frozen := false, freezeTimer := .stopped } })) ∧
        (s.mlp.frozen = false →
          exec (.unfreeze tag []) s =
            .next (settle (answeredOnly { kind := 0x20, tag := tag, payload := [] } (bare .ok) s)))) ∧
    (isRunning s.mlp.freezeTimer = true →
      exec .freezeTimerExpiry s =
        .next (settle
          { s with
            mlp := { s.mlp with frozen := false, freezeTimer := .stopped }
            clp := withEvent (.freezeEnded false) (newestNumber s) s.ms s.clp })) ∧
    (isRunning s.mlp.freezeTimer = false → exec .freezeTimerExpiry s = .next (settle s))

/-! ## Frames of the nodes -/

/-- A whole frame on the Machine Line: from an unknown address it is counted; a repeat is counted; any other sets its
node's entry, state and event by the node table, gives notice of a change of state, and is delivered to the owner. A
sample says whether its node is at fault by its last field, and whether its echo matches the item last transmitted,
field by field for each role; an item never transmitted, a FACE or BELT sample and every other frame match. (Where the
fields stand is the model's choice of log 18, which values a drive order and a pump order echo that of log 19.) -/
def Obligations.NodeFramesAreJudgedAgainstTheNodeTable : Prop :=
  ∀ (c : Instr) (f : MachineFrame) (r : Role) (kind address sequence : Byte) (p : List Byte) (k : Fin 7) (l : Fin 6)
      (o : DriveOrder) (d : Direction) (v : Nat) (x : StrokeKind) (n : Node) (s : State),
    (nodeFrame c = some f →
     (f.address = 0 ∨ (∀ x ∈ allRoles, addressOf s x ≠ f.address.toNat) →
       exec c s =
         .next (settle { s with mlp := { s.mlp with unknownCount := min 65535 (s.mlp.unknownCount + 1) } })) ∧
     (TakenFor s r f.address → (nodeOf s r).lastSequence = some f.sequence →
       exec c s =
         .next (settle { s with mlp := { s.mlp with repeatedCount := min 65535 (s.mlp.repeatedCount + 1) } })) ∧
     (TakenFor s r f.address → (nodeOf s r).lastSequence ≠ some f.sequence →
       (entryHeard s r f).state = (nodeOf s r).state → exec c s = .next (settle (deliver r f (heardState s r f)))) ∧
     (TakenFor s r f.address → (nodeOf s r).lastSequence ≠ some f.sequence →
       (entryHeard s r f).state ≠ (nodeOf s r).state →
       exec c s = .next (settle (deliver r f (notifyNode r (entryHeard s r f).state (heardState s r f)))))) ∧
    ((kind ≠ 0x01 →
       frameJudged n r { kind := kind, address := address, sequence := sequence, payload := p } = (false, true)) ∧
     (frameJudged n r { kind := 0x01, address := address, sequence := sequence, payload := p }).1 =
       flagAt p (match r with
         | .face => 15
         | .cutter => 10
         | .screw => 3
         | .thrust => 14
         | .erector => 1
         | .belt => 8
         | .grout _ => 4) ∧
     (n.lastTransmitted = none ∨ r = .face ∨ r = .belt →
       (frameJudged n r { kind := 0x01, address := address, sequence := sequence, payload := p }).2 = true) ∧
     (n.lastTransmitted = some (.driveOrder o v d) → v ≤ 65535 →
       ((frameJudged n .cutter { kind := 0x01, address := address, sequence := sequence, payload := p }).2 = true ↔
         natAt p 8 2 = v)) ∧
     (n.lastTransmitted = some (.screwSpeed v) → v ≤ 65535 →
       ((frameJudged n .screw { kind := 0x01, address := address, sequence := sequence, payload := p }).2 = true ↔
         natAt p 0 2 = v)) ∧
     (n.lastTransmitted = some (.advanceRate v) → v ≤ 255 →
       ((frameJudged n .thrust { kind := 0x01, address := address, sequence := sequence, payload := p }).2 = true ↔
         natAt p 13 1 = v)) ∧
     (n.lastTransmitted = some (.nextSector (some k)) →
       ((frameJudged n .erector { kind := 0x01, address := address, sequence := sequence, payload := p }).2 = true ↔
         natAt p 0 1 = k.val)) ∧
     (n.lastTransmitted = some (.nextSector none) →
       ((frameJudged n .erector { kind := 0x01, address := address, sequence := sequence, payload := p }).2 = true ↔
         natAt p 0 1 = 255)) ∧
     (n.lastTransmitted = some (.pumpOrder l (some (x, v))) →
       ((frameJudged n (.grout l) { kind := 0x01, address := address, sequence := sequence, payload := p }).2 = true ↔
         natAt p 2 1 = 0 ∧ natAt p 3 1 = if x = .grout then 0 else 1)) ∧
     (n.lastTransmitted = some (.pumpOrder l none) →
       ((frameJudged n (.grout l) { kind := 0x01, address := address, sequence := sequence, payload := p }).2 = true ↔
         natAt p 2 1 = 1 ∧ natAt p 3 1 = 0)))

/-- A SCREW sample stores the echo and the gate position; an ERECTOR sample and a frame that is neither sample nor
report reach no block; a seat report not from the ERECTOR and a done report not from a pump have no effect (log 12).
(An echo above 1000 is stored as it was sent by log 42.) -/
def Obligations.ScrewAndErectorSamples : Prop :=
  ∀ (kind address sequence : Byte) (p : List Byte) (r : Role) (s : State),
    (HeardWell s .screw { kind := 0x01, address := address, sequence := sequence, payload := p } →
      exec (.screwSample address sequence p) s =
        .next (settle
          { heardOnly s .screw sequence with
            fbu := { s.fbu with echo := some (natAt p 0 2, gateOf (byteAt p 2)) } })) ∧
    (HeardWell s .erector { kind := 0x01, address := address, sequence := sequence, payload := p } →
      exec (.erectorSample address sequence p) s = .next (settle (heardOnly s .erector sequence))) ∧
    (kind ≠ 0x01 → kind ≠ 0x02 →
      HeardWell s r { kind := kind, address := address, sequence := sequence, payload := p } →
      exec (.nodeOtherFrame kind address sequence p) s = .next (settle (heardOnly s r sequence))) ∧
    (r ≠ .erector → HeardWell s r { kind := 0x02, address := address, sequence := sequence, payload := p } →
      byteAt p 0 = 0 → exec (.seatReport address sequence p) s = .next (settle (heardOnly s r sequence))) ∧
    ((∀ l : Fin 6, r ≠ .grout l) →
      HeardWell s r { kind := 0x02, address := address, sequence := sequence, payload := p } → byteAt p 0 = 1 →
      exec (.doneReport address sequence p) s = .next (settle (heardOnly s r sequence)))

/-- What a node's new state brings about: an essential node SILENT or FAULT enters safe stop in a stroke or a build,
is a further cause in HALTED, and else does nothing; the belt sets the MUCK entry; a grout node blocks its line or
lets it issue; the erector and every other change do nothing. (Which group orders the safe-stop set holds and their
order are the model's inference of log 30, and that its STOP drive order carries the direction held, in a build too,
is its choice of log 43.) -/
def Obligations.NoticesOfNodeStates : Prop :=
  ∀ (r : Role) (st : NodeState) (l : Fin 6) (s : State), RateLaw s →
    (r ∈ essentialRoles → st = .silent ∨ st = .fault →
      (InStrokeOrBuild s →
        HaltEntered (.node r) s (notifyNode r st s) ∧ SafeItemsPlaced s (notifyNode r st s) ∧
          JobsHalted s (notifyNode r st s) ∧
          (notifyNode r st s).clp = haltTold (.node r) s.abu.phase s s.clp) ∧
      (s.abu.phase = .halted → notifyNode r st s = causeCounted (.node r) s) ∧
      (¬InStrokeOrBuild s → s.abu.phase ≠ .halted → notifyNode r st s = s)) ∧
    (r ∈ essentialRoles → st = .live ∨ st = .unseen → notifyNode r st s = s) ∧
    notifyNode .erector st s = s ∧
    (CapsPosted
        { s.abu.caps with
          muck :=
            if (nodeOf s .belt).state = .silent ∨ (nodeOf s .belt).state = .fault ∨ s.mbu.openingPending = true then
              .rate 0
            else if s.mbu.overdig = .active then .rate (s.abu.caps.plan / 2)
            else .noLimit }
        s (notifyNode .belt st s) ∧
      (notifyNode .belt st s).clp = s.clp) ∧
    (st = .silent ∨ st = .fault →
      notifyNode (.grout l) st s = if (lineOf s l).state = .blocked then s else blockAndCheck l .node s) ∧
    notifyNode (.grout l) .live s = issueCheck l s ∧ notifyNode (.grout l) .unseen s = s

/-- The expiry of a node's silence timer makes the node SILENT, its run 0, and queues NODE_SILENT; the change is
noticed; an essential node in a stroke or a build brings safe stop. The expiry of the face-invalid timer is a
safe-stop cause in a stroke or a build and a further cause in HALTED, and in the other phases only leaves the timer
expired. Without the timer running an expiry does nothing (log 4). (Which group orders the safe-stop set holds and
their order are the model's inference of log 30, and that its STOP drive order carries the direction held, in a build
too, is its choice of log 43.) -/
def Obligations.SilenceAndFaceInvalidExpiries : Prop :=
  ∀ (r : Role) (s : State),
    ((isRunning (nodeOf s r).silenceTimer = false → exec (.silenceTimerExpiry r) s = .next (settle s)) ∧
     (isRunning (nodeOf s r).silenceTimer = true →
       (nodeOf s r).state = .silent → exec (.silenceTimerExpiry r) s = .next (settle (silentState s r))) ∧
     (isRunning (nodeOf s r).silenceTimer = true → (nodeOf s r).state ≠ .silent →
       exec (.silenceTimerExpiry r) s = .next (settle (notifyNode r .silent (silentState s r)))) ∧
     (isRunning (nodeOf s r).silenceTimer = true → (nodeOf s r).state ≠ .silent → r ∈ essentialRoles →
       InStrokeOrBuild s → RateLaw s →
       (∃ u, exec (.silenceTimerExpiry r) s = .next (settle u) ∧ HaltEntered (.node r) s u ∧
         SafeItemsPlaced (silentState s r) u ∧ JobsHalted s u ∧
         u.clp = haltTold (.node r) s.abu.phase (silentState s r) (silentState s r).clp))) ∧
    (RateLaw s →
     (isRunning s.fbu.invalidTimer = false → exec .faceInvalidExpiry s = .next (settle s)) ∧
     (isRunning s.fbu.invalidTimer = true → InStrokeOrBuild s →
       (∃ u, exec .faceInvalidExpiry s = .next (settle u) ∧ HaltEntered .faceInvalid s u ∧ SafeItemsPlaced s u ∧
         JobsHalted { s with fbu := { s.fbu with invalidTimer := .expired } } u ∧
         u.clp = haltTold .faceInvalid s.abu.phase s s.clp)) ∧
     (isRunning s.fbu.invalidTimer = true → s.abu.phase = .halted →
       exec .faceInvalidExpiry s =
         .next (settle { causeCounted .faceInvalid s with fbu := { s.fbu with invalidTimer := .expired } })) ∧
     (isRunning s.fbu.invalidTimer = true → ¬InStrokeOrBuild s → s.abu.phase ≠ .halted →
       exec .faceInvalidExpiry s = .next (settle { s with fbu := { s.fbu with invalidTimer := .expired } })))

/-! ## Face and cutterhead -/

/-- A FACE sample replaces the cells, counts the valid ones, corrects them to the axis, and sets P_w to their lower
median, the validity, and the face-invalid timer; the FBU's modes set by hand, the cutterhead, the slices and the
settings stay. (A raw value beyond the stated range is kept as it was sent by log 42.) -/
def Obligations.FaceSampleMeasuresTheFace : Prop :=
  ∀ (address sequence : Byte) (p : List Byte) (s : State),
    HeardWell s .face { kind := 0x01, address := address, sequence := sequence, payload := p } →
    ∃ u, exec (.faceSample address sequence p) s = .next (settle u) ∧ FaceMeasured p s u ∧
      u.fbu =
        { s.fbu with
          cells := u.fbu.cells, pw := u.fbu.pw, valid := u.fbu.valid, count := u.fbu.count
          invalidTimer := u.fbu.invalidTimer, faceClass := u.fbu.faceClass, tEff := u.fbu.tEff, trim := u.fbu.trim
          screwSent := u.fbu.screwSent } ∧
      u.chm = s.chm ∧ u.mbu = s.mbu ∧ u.cfb = s.cfb ∧ u.ms = s.ms ∧ u.pending = s.pending ∧
      u.mlp = { heardMlp s .face sequence with queue := u.mlp.queue }

/-- A FACE sample outside the build sets the effective target, the class, the FACE entry, the trim and the screw
command from its P_w, queues the event of a class entered, and posts P_w and the entries to the OPEN record in BORING. -/
def Obligations.FaceSampleClassifiesAndTrims : Prop :=
  ∀ (address sequence : Byte) (p : List Byte) (s : State),
    HeardWell s .face { kind := 0x01, address := address, sequence := sequence, payload := p } → RateLaw s →
    s.cfb.face.screwMin ≤ s.cfb.face.screwMax → s.abu.phase ≠ .building → s.abu.phase ≠ .buildSuspended →
    ∃ u, exec (.faceSample address sequence p) s = .next (settle u) ∧ FaceMeasured p s u ∧ u.fbu.tEff = targetOf s ∧
      u.fbu.faceClass = some (classFor s.cfb.face u.fbu.valid u.fbu.pw u.fbu.tEff) ∧
      (∀ c ∈ u.fbu.faceClass,
        u.abu = abuWithCaps { s.abu.caps with face := entryFor c } s.abu ∧ u.fbu.trim = trimAfter s c ∧
          u.fbu.screwSent = screwAfter s c ∧
          (screwAfter s c ≠ s.fbu.screwSent → ItemWaits (.screwSpeed (screwAfter s c)) u) ∧
          u.clp = toldClp (classEvent s.fbu.faceClass c u.fbu.pw u.fbu.count) s ∧
          u.rru =
            { s.rru with
              records := s.rru.records.map fun r =>
                if s.abu.phase = .boring ∧ r.status = .opened ∧ r.buildFinal = false then
                  { r with
                    advance := { r.advance with
                      holds :=
                        if 0 < s.abu.effective ∧ u.abu.effective = 0 then min 255 (r.advance.holds + 1)
                        else r.advance.holds }
                    face := faceRecord (decide (s.fbu.faceClass ≠ some c)) c u.fbu.valid (u.fbu.pw.getD 0) r.face }
                else r }) ∧
      u.gru = s.gru

/-- In BUILDING a FACE sample that the HOLDING groups no longer bear suspends the build; in BUILD_SUSPENDED one that
they bear with 5 % margin resumes it, queues BUILD_RESUMED with P_w, and, with the key sector seated and all seven
groups HOLDING, closes the ring at once; else the phase and the groups stay. -/
def Obligations.FaceSampleSuspendsAndResumesTheBuild : Prop :=
  ∀ (address sequence : Byte) (p : List Byte) (a : ActivePlan) (r : RingRecord) (s : State),
    HeardWell s .face { kind := 0x01, address := address, sequence := sequence, payload := p } → RateLaw s →
    s.rru.active = some a →
    (s.abu.phase = .building →
      (∃ u, exec (.faceSample address sequence p) s = .next (settle u) ∧ FaceMeasured p s u ∧
        (BearsFace { s with fbu := u.fbu } → u.abu.phase = .building ∧ u.abu.groups = s.abu.groups ∧
          u.abu.suspensions = s.abu.suspensions ∧ u.gru = s.gru) ∧
        (¬BearsFace { s with fbu := u.fbu } →
          BuildSuspends { s with fbu := u.fbu, abu := { s.abu with caps := u.abu.caps, effective := u.abu.effective } }
            u) ∧
        u.abu.sectors = s.abu.sectors ∧ u.abu.expected = s.abu.expected ∧ u.rru = s.rru)) ∧
    (s.abu.phase = .buildSuspended →
      (∃ u, exec (.faceSample address sequence p) s = .next (settle u) ∧ FaceMeasured p s u ∧
        (¬BearsFaceWithMargin { s with fbu := u.fbu } →
          u.abu.phase = .buildSuspended ∧ u.abu.expected = s.abu.expected ∧ u.gru = s.gru ∧ u.rru = s.rru) ∧
        (BearsFaceWithMargin { s with fbu := u.fbu } → EventWaits (.buildResumed (u.fbu.pw.getD 0)) u ∧
          ((sectorOf s a.plan.keySector).state = .empty ∨ (sectorOf s a.plan.keySector).state = .offset ∨
              (∃ g : Fin 7, (groupOf s g).state ≠ .holding) →
            u.abu.phase = .building ∧ u.abu.expected = s.abu.expected ∧ u.rru = s.rru) ∧
          ((sectorOf s a.plan.keySector).state = .placed ∨ (sectorOf s a.plan.keySector).state = .accepted →
            (∀ g : Fin 7, (groupOf s g).state = .holding) → s.rru.records.getLast? = some r → r.status = .opened →
            r.plan.ring = a.plan.ring → HaltLaw s → PlanLaw s → NumberingLaw s → OpenLaw s → CompleteLaw s →
            RingClosed a r s.abu.sectors
              { s with fbu := u.fbu, abu := { s.abu with caps := { s.abu.caps with face := u.abu.caps.face } } } u)) ∧
        u.abu.groups = s.abu.groups ∧ u.abu.suspensions = s.abu.suspensions ∧ u.abu.sectors = s.abu.sectors))

/-- A CUTTER sample stores speed, torque and roll, and judges the roll alarm in every phase: an ARMED alarm at or
above roll_alarm becomes RAISED and ROLL_ALARM is queued with the roll, a RAISED one below it becomes ARMED, any other
stays; the direction stays. A cutterhead STOPPED or TRIPPED, or STARTING or STOPPING and not yet arrived, is left in
its state, with no other event and no change of the ABU, and in BORING the torque becomes the OPEN record's maximum
when that is absent or lower; no other record's cutter part changes. (Where the fields stand is the model's choice of
log 18, and readings beyond their ranges are stored as sent by log 42.) -/
def Obligations.CutterSampleJudgesTheRoll : Prop :=
  ∀ (address sequence : Byte) (p : List Byte) (s : State),
    HeardWell s .cutter { kind := 0x01, address := address, sequence := sequence, payload := p } →
    ∃ u, exec (.cutterSample address sequence p) s = .next (settle u) ∧
      u.chm.speed = some (natAt p 1 2) ∧ u.chm.torque = some (natAt p 3 2) ∧ u.chm.roll = some (intAt p 5 2) ∧
      u.chm.alarm = (if (s.cfb.cutter.rollAlarm : Int) ≤ max (intAt p 5 2) (-intAt p 5 2) then .raised else .armed) ∧
      (s.chm.alarm = .armed → u.chm.alarm = .raised → EventWaits (.rollAlarm (intAt p 5 2)) u) ∧
      u.chm.direction = s.chm.direction ∧ u.chm.mode = s.chm.mode ∧ u.chm.manualSpeed = s.chm.manualSpeed ∧
      u.mbu = s.mbu ∧ u.gru = s.gru ∧ u.cfb = s.cfb ∧ u.ms = s.ms ∧ u.pending = s.pending ∧
      (u.rru.records.map RingRecord.cutter =
        s.rru.records.map fun r =>
          if s.abu.phase = .boring ∧ r.status = .opened ∧ r.buildFinal = false then
            { r.cutter with
              maxTorque := some (match r.cutter.maxTorque with
                | none => natAt p 3 2
                | some m => max m (natAt p 3 2)) }
          else r.cutter) ∧
      (s.chm.state = .stopped ∨ s.chm.state = .tripped ∨
          (s.chm.state = .starting ∧
            (flagAt p 0 = false ∨ s.chm.speedSent = 0 ∨ natAt p 1 2 * 10 < s.chm.speedSent * 9)) ∨
          (s.chm.state = .stopping ∧ (flagAt p 0 = true ∨ 5 ≤ natAt p 1 2)) →
        u.chm.state = s.chm.state ∧ u.chm.band = s.chm.band ∧ u.chm.speedSent = s.chm.speedSent ∧
          u.chm.startTimer = s.chm.startTimer ∧ u.abu = s.abu ∧ u.mlp = heardMlp s .cutter sequence ∧
          u.clp =
            toldClp (if s.chm.alarm = .armed ∧ u.chm.alarm = .raised then some (.rollAlarm (intAt p 5 2)) else none) s)

/-- The cutter state through a CUTTER sample: STARTING becomes RUNNING at nine tenths of its command; in RUNNING a
drive that has stopped goes to STOPPING, a torque at the trip level trips into safe stop, a torque above the derate
level lowers the CUTTER entry, a lower one lifts it; STOPPING becomes STOPPED at rest. -/
def Obligations.CutterSampleMovesTheCutterState : Prop :=
  ∀ (address sequence : Byte) (p : List Byte) (s : State),
    HeardWell s .cutter { kind := 0x01, address := address, sequence := sequence, payload := p } → RateLaw s →
    ((s.chm.state = .running ∧ flagAt p 0 = true) ∨
        (s.chm.state = .starting ∧ flagAt p 0 = true ∧ 0 < s.chm.speedSent ∧ s.chm.speedSent * 9 ≤ natAt p 1 2 * 10) →
      (natAt p 3 2 < s.cfb.cutter.torqueTrip →
        (∃ u, exec (.cutterSample address sequence p) s = .next (settle u) ∧ u.chm.state = .running ∧
          u.chm.speedSent = s.chm.speedSent ∧
          u.chm.startTimer = (if s.chm.state = .starting then .stopped else s.chm.startTimer) ∧
          u.chm.band =
            (if s.chm.speedSent = 0 then s.chm.band
            else if natAt p 3 2 ≤ s.cfb.cutter.torqueDerate then some .normal else some .derate) ∧
          u.abu =
            abuWithCaps
              { s.abu.caps with
                cutter :=
                  if s.chm.speedSent = 0 then .rate 0
                  else if natAt p 3 2 ≤ s.cfb.cutter.torqueDerate then .noLimit
                  else
                    .rate
                      (s.abu.caps.plan * (s.cfb.cutter.torqueTrip - natAt p 3 2) /
                        (s.cfb.cutter.torqueTrip - s.cfb.cutter.torqueDerate)) }
              s.abu ∧
          (u.chm.band = some .derate → s.chm.band ≠ some .derate →
            EventWaits
              (.cutterDerate
                (s.abu.caps.plan * (s.cfb.cutter.torqueTrip - natAt p 3 2) /
                  (s.cfb.cutter.torqueTrip - s.cfb.cutter.torqueDerate)))
              u) ∧
          u.fbu = s.fbu)) ∧
      (s.cfb.cutter.torqueTrip ≤ natAt p 3 2 →
        (∃ u, exec (.cutterSample address sequence p) s = .next (settle u) ∧ u.chm.state = .tripped ∧
          u.chm.band = none ∧ u.chm.speedSent = 0 ∧ u.abu.caps.cutter = .rate 0 ∧ u.abu.phase = .halted ∧
          u.abu.rateSent = (if s.abu.phase = .halted then s.abu.rateSent else 0) ∧
          (s.abu.phase ≠ .halted →
            u.abu.resumePhase = some s.abu.phase ∧ u.abu.haltCause = some .cutterTrip ∧ u.abu.furtherCauses = 0 ∧
              u.mlp.queue.take 4 =
                [Command.advanceRate 0, .driveOrder .stop 0 s.chm.direction, .screwSpeed 0, .screwGate .closed].map
                  (fun c => { command := c, safety := true }))))) ∧
    (s.chm.state = .running → flagAt p 0 = false →
      (∃ u, exec (.cutterSample address sequence p) s = .next (settle u) ∧ u.chm.state = .stopping ∧ u.chm.band = none ∧
        u.chm.speedSent = 0 ∧ u.chm.startTimer = s.chm.startTimer ∧
        ItemWaits (.driveOrder .stop 0 s.chm.direction) u ∧
        u.abu = abuWithCaps { s.abu.caps with cutter := .rate 0 } s.abu ∧ EventWaits (.cutterStopped (natAt p 1 2)) u ∧
        u.fbu = s.fbu)) ∧
    (s.chm.state = .stopping → flagAt p 0 = false → natAt p 1 2 < 5 →
      (∃ u, exec (.cutterSample address sequence p) s = .next (settle u) ∧ u.chm.state = .stopped ∧
        u.chm.speedSent = s.chm.speedSent ∧ u.abu = abuWithCaps { s.abu.caps with cutter := .rate 0 } s.abu ∧
        u.fbu = s.fbu))

/-! ## Timers -/

/-- The expiries of the start timer, a group's move timer, a line's period timer and a line's stroke timer, the cabin
silence timer and the status pacing timer; without its timer running, an expiry does nothing (log 4). (A change flag,
which the status pacing timer looks at, compares items by their bytes, the model's choice of log 50.) -/
def Obligations.ExpiriesOfTheOtherTimers : Prop :=
  ∀ (g : Fin 7) (l : Fin 6) (s : State),
    (exec .startTimerExpiry s =
      .next (settle
        (if isRunning s.chm.startTimer = true then
          { s with chm := { s.chm with startTimer := .stopped }, clp := toldClp (some (.cutterStartSlow s.chm.speed)) s }
        else s))) ∧
    (exec (.moveTimerExpiry g) s =
      .next (settle
        (if isRunning (groupOf s g).moveTimer = true then
          { s with
            abu := { s.abu with groups := s.abu.groups.set g { groupOf s g with moveTimer := .expired } }
            clp := toldClp (some (.groupStall g (groupOf s g).state)) s }
        else s))) ∧
    (exec (.periodTimerExpiry l) s =
      .next (settle
        (if isRunning (lineOf s l).periodTimer = true then
          issueCheck l (withLine s l { lineOf s l with periodTimer := .expired })
        else s))) ∧
    (exec (.strokeTimerExpiry l) s =
      .next (settle
        (if isRunning (lineOf s l).strokeTimer = true then blockAndCheck l .stall s else s))) ∧
    (isRunning s.clp.silenceTimer = false → exec .cabinSilenceExpiry s = .next (settle s)) ∧
    (isRunning s.clp.silenceTimer = true → RateLaw s →
      (∃ u, exec .cabinSilenceExpiry s = .next (settle u) ∧ CapsPosted { s.abu.caps with cabin := .rate 0 } s u ∧
        u.clp = { withEvent .hostSilent (newestNumber s) s.ms s.clp with silenceTimer := .stopped })) ∧
    (exec .statusPacingExpiry s =
      .next (settle
        (if isRunning s.clp.pacingTimer = true then
          { s with
            clp := { s.clp with
              pacingTimer :=
                if s.cfb.link.statusPeriod = 0 then .stopped else .running s.ms s.cfb.link.statusPeriod
              due := s.clp.due || decide (∃ n : Fin 7, flagRaised s n = true) } }
        else s)))

/-! ## Advance and sectors -/

/-- A THRUST sample that forms no increment hands v to the FBU, sets the reference outside BORING, stores the
positions and ends the moves they complete; outside BUILDING, and in BUILDING with no move ended, nothing else changes
but a RECOVER placed for a group whose recovery was pending. In BUILDING a sample that ends moves is followed once by
the checks (log 37): groups that no longer bear the face suspend the build; with every group HOLDING and the key
sector seated the ring closes; else the build goes on. -/
def Obligations.ThrustSampleEndsMovesAndChecksTheBuild : Prop :=
  ∀ (address sequence : Byte) (p : List Byte) (a : ActivePlan) (r : RingRecord) (s : State),
    (HeardWell s .thrust { kind := 0x01, address := address, sequence := sequence, payload := p } →
     (s.abu.phase = .boring → ∀ a ∈ s.abu.advanceRef, intAt p 0 4 ≤ a) →
     (s.abu.phase = .building →
       ∀ g : Fin 7, (groupOf (thrustTaken s sequence p) g).state = (groupOf s g).state) →
     ∃ u, exec (.thrustSample address sequence p) s = .next (settle u) ∧
       u = { thrustTaken s sequence p with mlp := { heardMlp s .thrust sequence with queue := u.mlp.queue } } ∧
       (∀ g : Fin 7,
         (groupOf s g).state = .retracting → reportedAt p g = .retracted → (groupOf s g).recoverPending = true →
           ItemWaits (.groupOrder g .recover 0) u) ∧
       ((∀ g : Fin 7, (groupOf s g).recoverPending = false ∨ reportedAt p g ≠ .retracted) → u.mlp.queue = s.mlp.queue)) ∧
    (HeardWell s .thrust { kind := 0x01, address := address, sequence := sequence, payload := p } →
     s.abu.phase = .building → s.rru.active = some a → RateLaw s →
     (∃ g : Fin 7, (groupOf (thrustTaken s sequence p) g).state ≠ (groupOf s g).state) →
     (¬BearsFace (thrustTaken s sequence p) →
       (∃ u, exec (.thrustSample address sequence p) s = .next (settle u) ∧
         BuildSuspends (thrustTaken s sequence p) u ∧ OutsideKept (heardOnly s .thrust sequence) u)) ∧
     (BearsFace (thrustTaken s sequence p) →
       ((sectorOf s a.plan.keySector).state = .empty ∨ (sectorOf s a.plan.keySector).state = .offset ∨
         ∃ g : Fin 7, (groupOf (thrustTaken s sequence p) g).state ≠ .holding) →
       (∃ u, exec (.thrustSample address sequence p) s = .next (settle u) ∧
         u = { thrustTaken s sequence p with mlp := { heardMlp s .thrust sequence with queue := u.mlp.queue } })) ∧
     (BearsFace (thrustTaken s sequence p) →
       (sectorOf s a.plan.keySector).state = .placed ∨ (sectorOf s a.plan.keySector).state = .accepted →
       (∀ g : Fin 7, (groupOf (thrustTaken s sequence p) g).state = .holding) → s.rru.records.getLast? = some r →
       r.status = .opened → r.plan.ring = a.plan.ring → HaltLaw s → PlanLaw s → NumberingLaw s → OpenLaw s →
       CompleteLaw s →
       (∃ u, exec (.thrustSample address sequence p) s = .next (settle u) ∧
         RingClosed a r s.abu.sectors (thrustTaken s sequence p) u ∧
         u.abu.groups = (thrustTaken s sequence p).abu.groups ∧
         OutsideKept (heardOnly s .thrust sequence) u)))

/-- In BORING a THRUST sample beyond the advance reference is one increment: the reference and the length move on, the
demand grows, each LOCKED line that is not BLOCKED is owed its share up to the cap, and the slices' stroke advance
grows; at the stroke target the stroke ends. -/
def Obligations.ThrustSampleIsAnAdvanceIncrement : Prop :=
  ∀ (address sequence : Byte) (p : List Byte) (a : ActivePlan) (b : Int) (d : Nat) (s : State),
    HeardWell s .thrust { kind := 0x01, address := address, sequence := sequence, payload := p } →
    s.abu.phase = .boring → s.rru.active = some a → s.abu.advanceRef = some b → 0 < d → intAt p 0 4 = b + d →
    ∃ u, exec (.thrustSample address sequence p) s = .next (settle u) ∧ u.abu.advanceRef = some (b + d) ∧
      u.fbu.v = min 200 (natAt p 4 2) ∧ u.abu.strokeStart = s.abu.strokeStart ∧ u.abu.strokeTarget = s.abu.strokeTarget ∧
      u.abu.phase = (if s.abu.strokeTarget ≤ b + d then .strokeEnd else .boring) ∧
      (s.abu.strokeTarget ≤ b + d → EventWaits (.strokeEnded (b + d - s.abu.strokeStart)) u) ∧
      (∀ x ∈ u.rru.records, x.status = .opened → x.buildFinal = false →
        x.advance.length = b + d - s.abu.strokeStart) ∧
      u.gru.demand = s.gru.demand + d * s.cfb.vVoid.getD 0 * a.plan.fill * 1000 ∧
      u.gru.delivered = s.gru.delivered ∧ u.gru.groutRing = s.gru.groutRing ∧
      (∀ l : Fin 6,
        (lineOf u l).acc +
            (if (lineOf s l).stroke = none ∧ (lineOf u l).stroke.isSome = true ∧ (lineOf s l).topUp = (lineOf u l).topUp ∧
                (lineOf s l).state = .running ∧ (lineOf s l).mode = .locked then
              s.cfb.grout.strokeMl * 1000000
            else 0) =
          min (4 * s.cfb.grout.strokeMl * 1000000)
            (if (lineOf s l).mode = .locked ∧ (lineOf s l).state ≠ .blocked then
              (lineOf s l).acc + d * s.cfb.vVoid.getD 0 * a.plan.fill * (lineOf s l).share
            else (lineOf s l).acc)) ∧
      u.mbu.strokeAdvance = s.mbu.strokeAdvance + d ∧ u.mbu.belt = s.mbu.belt ∧
      u.chm.direction = s.chm.direction ∧ OutsideKept (heardOnly s .thrust sequence) u

/-- The slices at an increment below the stroke target: the OPEN slice grows by it; at its close point it is closed
with its theoretical mass and the next is opened, after the oldest FINAL one is retired when the queue is full, or,
with none FINAL, the opening waits and MUCK_QUEUE_FULL is queued; while one waits no other is asked for (log 38). The
index beyond 255 is free (log 14). (That mass counts as credited when it is above 0, which decides between ARRIVING
and TRAVELLING at the closing, is the model's choice of log 24.) -/
def Obligations.SlicesAreCutByTheAdvance : Prop :=
  ∀ (address sequence : Byte) (p : List Byte) (a : ActivePlan) (b : Int) (d c : Nat) (x : Slice) (older : List Slice)
    (s : State),
    HeardWell s .thrust { kind := 0x01, address := address, sequence := sequence, payload := p } →
    s.abu.phase = .boring → s.rru.active = some a → s.abu.advanceRef = some b → 0 < d → intAt p 0 4 = b + d →
    b + d < s.abu.strokeTarget → s.mbu.slices = older ++ [x] → x.state = .opened → x.closePoint = some c →
    (∀ y ∈ older, y.state ≠ .opened) →
    (s.mbu.strokeAdvance + d < c ∨ s.mbu.openingPending = true →
      (∃ u, exec (.thrustSample address sequence p) s = .next (settle u) ∧
        u.mbu =
          { s.mbu with
            strokeAdvance := s.mbu.strokeAdvance + d
            slices := older ++ [{ x with length := s.mbu.strokeAdvance + d - x.advanceStart }] })) ∧
    (c ≤ s.mbu.strokeAdvance + d → s.mbu.openingPending = false →
      s.mbu.slices.length < 32 ∨ (∃ y ∈ older, y.state = .final) →
      (∃ u, exec (.thrustSample address sequence p) s = .next (settle u) ∧
        u.mbu =
          { s.mbu with
            strokeAdvance := s.mbu.strokeAdvance + d
            nextIndex := u.mbu.nextIndex
            slices :=
              (if s.mbu.slices.length < 32 then older else older.eraseP fun y => decide (y.state = .final)) ++
                [{ x with
                    length := s.mbu.strokeAdvance + d - x.advanceStart, closePoint := none
                    theoretical :=
                      some (theoreticalOf s a (s.mbu.strokeAdvance + d - x.advanceStart))
                    state := if x.bStart ≤ s.mbu.belt ∧ 0 < x.measured then .arriving else .travelling },
                  { ring := s.mbu.strokeRing.getD 0, index := s.mbu.nextIndex, advanceStart := s.mbu.strokeAdvance + d
                    length := 0
                    closePoint :=
                      some ((s.mbu.strokeAdvance + d) / s.cfb.muck.sliceLen * s.cfb.muck.sliceLen + s.cfb.muck.sliceLen)
                    bStart := s.mbu.belt + s.cfb.muck.beltLag, theoretical := none, measured := 0, state := .opened
                    verdict := none }] } ∧
        (s.mbu.nextIndex < 255 → u.mbu.nextIndex = s.mbu.nextIndex + 1))) ∧
    (c ≤ s.mbu.strokeAdvance + d → s.mbu.openingPending = false → 32 ≤ s.mbu.slices.length →
      (∀ y ∈ older, y.state ≠ .final) →
      (∃ u, exec (.thrustSample address sequence p) s = .next (settle u) ∧ u.mbu.openingPending = true ∧
        u.mbu.slices = older ++ [{ x with length := s.mbu.strokeAdvance + d - x.advanceStart }] ∧
        u.abu.caps.muck = .rate 0 ∧ EventWaits .muckQueueFull u))

/-- A seat report is rejected at the first check of its table that fails, with the reported sector and the reason; a
rejected seat changes nothing else. A seat on the expected sector with its group RETRACTED is taken: PLACED and locked
within the tolerance, OFFSET beyond it, the gap stored, a reseat counted, the group ordered to SHOVE, the expected
sector formed anew; groups that no longer bear the face suspend the build. -/
def Obligations.SeatIsJudgedAndTaken : Prop :=
  ∀ (address sequence : Byte) (p : List Byte) (k : Fin 7) (o : Vector (Fin 7) 7) (s m : State),
    (HeardWell s .erector { kind := 0x02, address := address, sequence := sequence, payload := p } → byteAt p 0 = 0 →
     (s.abu.phase ≠ .building → s.abu.phase ≠ .buildSuspended →
       exec (.seatReport address sequence p) s =
         .next (settle
           { heardOnly s .erector sequence with
             clp := toldClp (some (.seatRejected (natAt p 1 1) .phase)) s })) ∧
     (s.abu.phase = .buildSuspended →
       exec (.seatReport address sequence p) s =
         .next (settle
           { heardOnly s .erector sequence with
             clp := toldClp (some (.seatRejected (natAt p 1 1) .suspended)) s })) ∧
     (s.abu.phase = .building → 6 < natAt p 1 1 →
       exec (.seatReport address sequence p) s =
         .next (settle
           { heardOnly s .erector sequence with
             clp := toldClp (some (.seatRejected (natAt p 1 1) .order)) s })) ∧
     (s.abu.phase = .building → natAt p 1 1 = k.val →
       (sectorOf s k).state = .placed ∨ (sectorOf s k).state = .accepted ∨ s.abu.expected ≠ some k ∨
         (groupOf s k).state ≠ .retracted →
       exec (.seatReport address sequence p) s =
         .next (settle
           { heardOnly s .erector sequence with
             clp :=
               toldClp
                 (some
                   (.seatRejected k.val
                     (if (sectorOf s k).state = .placed ∨ (sectorOf s k).state = .accepted then .occupied
                     else if s.abu.expected ≠ some k then .order
                     else .notRetracted))) s }))) ∧
    (HeardWell s .erector { kind := 0x02, address := address, sequence := sequence, payload := p } → byteAt p 0 = 0 →
     s.abu.phase = .building → natAt p 1 1 = k.val →
     (sectorOf s k).state = .empty ∨ (sectorOf s k).state = .offset → s.abu.expected = some k →
     (groupOf s k).state = .retracted → s.abu.buildOrder = some o → RateLaw s → m = seatTaken s k (natAt p 2 2) sequence →
     (BearsFace m →
       (∃ u, exec (.seatReport address sequence p) s = .next (settle u) ∧
         u = { m with abu := { m.abu with expected := expectedSector m }, mlp := u.mlp, clp := u.clp } ∧
         ItemWaits (.groupOrder k .shove 0) u ∧
         (expectedSector m ≠ some k → ItemWaits (.nextSector (expectedSector m)) u) ∧
         u.clp =
           toldClp (if s.cfb.thrust.seatTol < natAt p 2 2 then some (.seatOffset k (natAt p 2 2)) else none) s ∧
         OutsideKept (heardOnly s .erector sequence) u)) ∧
     (¬BearsFace m →
       (∃ u, exec (.seatReport address sequence p) s = .next (settle u) ∧
         BuildSuspends { m with abu := { m.abu with expected := expectedSector m } } u ∧
         ItemWaits (.groupOrder k .shove 0) u ∧ OutsideKept (heardOnly s .erector sequence) u)))

/-! ## Muck -/

/-- A BELT sample moves the belt by its travel, counts negative readings, and credits its mass to the newest slice
whose spoil has begun to arrive; the older slices that are not FINAL then become FINAL, oldest first (log 39), and the
tail marker is checked; mass without such a slice is unattributed. The tail marker: with the belt at or beyond it the
last slice of its stroke (log 23) becomes FINAL and the marker is absent; before that nothing happens. -/
def Obligations.BeltSampleCreditsTheArrivingSlice : Prop :=
  ∀ (address sequence : Byte) (p : List Byte) (x : Slice) (t : TailMarker) (s : State),
    (HeardWell s .belt { kind := 0x01, address := address, sequence := sequence, payload := p } →
     ((arrivals s (intAt p 0 4)).getLast?.all (fun y => y.state == .final) = true →
       exec (.beltSample address sequence p) s =
         .next (settle (checkTail
           { heardOnly s .belt sequence with
             mbu :=
               { beltMoved s (intAt p 0 4) (intAt p 4 4) with
                 unattributed := min 4294967295 (s.mbu.unattributed + (intAt p 4 4).toNat) } }))) ∧
     ((arrivals s (intAt p 0 4)).getLast? = some x → x.state ≠ .final →
       x.measured + (intAt p 4 4).toNat ≤ 4294967295 →
       exec (.beltSample address sequence p) s =
         .next (settle (checkTail (finalizeAll
           ((s.mbu.slices.takeWhile fun y => !(y == x)).filter fun y => !isFinal y)
           { heardOnly s .belt sequence with
             mbu :=
               { beltMoved s (intAt p 0 4) (intAt p 4 4) with
                 slices := s.mbu.slices.map fun y =>
                   if y = x then
                     { y with
                       measured := y.measured + (intAt p 4 4).toNat
                       state := if y.state = .opened then .opened else .arriving }
                   else y } }))))) ∧
    (s.mbu.tail = some t →
     (s.mbu.belt < t.position → checkTail s = s) ∧
     (t.position ≤ s.mbu.belt →
       (checkTail s).mbu.tail = none ∧ (checkTail s).mbu.belt = s.mbu.belt ∧
         (∀ x ∈ (s.mbu.slices.filter fun y : Slice => some y.ring == t.ring && !(y.state == .opened)).getLast?,
           checkTail s = { finalizeSlice x s with mbu := { (finalizeSlice x s).mbu with tail := none } }) ∧
         ((∀ y ∈ s.mbu.slices, some y.ring = t.ring → y.state = .opened) →
           checkTail s = { s with mbu := { s.mbu with tail := none } })))

/-- A slice that becomes FINAL while no opening waits: its verdict, its posting, the run counts, the overdig state
with its events, the MUCK entry and the bias; with it the last of a ring whose stroke has ended, the ring's muck part
is final and its slices leave, and a CLOSED record with its other parts final becomes COMPLETE with RING_COMPLETE.
While an opening waits, the same becomes of the slice and its ring, and then the opening is served: the OPEN slice is
closed, the oldest FINAL one retired when the queue is full, the new slice opened, the flag cleared and the MUCK entry
posted. (The order of these effects is the model's choice of log 39, the serving that of log 38, and what closing the
OPEN slice makes of its state that of log 24.) -/
def Obligations.SliceIsJudgedAndPosted : Prop :=
  ∀ (x : Slice) (mt : Nat) (v : Verdict) (a : ActivePlan) (s m : State),
    (x ∈ s.mbu.slices → x.state ≠ .final → x.state ≠ .opened →
     x.theoretical = some mt →
     (s.mbu.slices.map fun y => (y.ring, y.index)).Nodup → (s.rru.records.map fun r => r.plan.ring).Nodup →
     s.mbu.openingPending = false → v = verdictOf s.cfb.muck x mt → BiasLaw s →
     s.mbu.overRun ≤ 255 → s.mbu.okRun ≤ 255 →
     (finalizeSlice x s).mbu.overRun =
         (if v = .over then min 255 (s.mbu.overRun + 1) else if v = .notJudged then s.mbu.overRun else 0) ∧
       (finalizeSlice x s).mbu.okRun =
         (if v = .ok then min 255 (s.mbu.okRun + 1) else if v = .notJudged then s.mbu.okRun else 0) ∧
       (finalizeSlice x s).mbu.overdig =
         (if v = .over ∧ s.cfb.muck.kOver ≤ (finalizeSlice x s).mbu.overRun then .active
         else if v = .ok ∧ s.cfb.muck.kOk ≤ (finalizeSlice x s).mbu.okRun then .inactive
         else s.mbu.overdig) ∧
       (finalizeSlice x s).fbu =
         { s.fbu with
           bias :=
             if v = .over ∧ (s.mbu.overdig = .active ∨ (finalizeSlice x s).mbu.overdig = .active) then
               min s.cfb.face.biasMax (s.fbu.bias + s.cfb.muck.biasStep)
             else s.fbu.bias } ∧
       (s.mbu.overdig ≠ (finalizeSlice x s).mbu.overdig →
         EventWaits
           (if v = .over then .overdig x.index (x.measured * 1000 / mt)
           else .muckCleared (finalizeSlice x s).mbu.okRun) (finalizeSlice x s) ∧
         (finalizeSlice x s).abu.caps.muck =
           (if (nodeOf s .belt).state = .silent ∨ (nodeOf s .belt).state = .fault then .rate 0
           else if v = .over then .rate (s.abu.caps.plan / 2)
           else .noLimit)) ∧
       (s.mbu.overdig = (finalizeSlice x s).mbu.overdig → (finalizeSlice x s).abu = s.abu) ∧
       (v = .under → EventWaits (.underdig x.index (x.measured * 1000 / mt)) (finalizeSlice x s)) ∧
       (finalizeSlice x s).mbu.slices =
         (if LastOfItsRing x s then s.mbu.slices.filter fun y => y.ring != x.ring
         else
           s.mbu.slices.map fun y => if y = x then { x with state := .final, verdict := some v } else y) ∧
       (finalizeSlice x s).rru.records.map (fun r => r.plan.ring) = s.rru.records.map (fun r => r.plan.ring) ∧
       (∀ r ∈ s.rru.records, r.plan.ring ≠ x.ring →
         ∃ r' ∈ (finalizeSlice x s).rru.records, r' = { r with advance := r'.advance }) ∧
       (∀ r ∈ s.rru.records, r.plan.ring = x.ring →
         ∃ r' ∈ (finalizeSlice x s).rru.records, r'.plan.ring = x.ring ∧
           r'.muck =
             (if r.muckFinal = true then r.muck
             else
               { slices := r.muck.slices + 1, measured := r.muck.measured + x.measured
                 theoretical := r.muck.theoretical + mt
                 overs := if v = .over then r.muck.overs + 1 else r.muck.overs
                 unders := if v = .under then r.muck.unders + 1 else r.muck.unders }) ∧
           (r'.muckFinal = true ↔ r.muckFinal = true ∨ LastOfItsRing x s) ∧
           r'.status =
             (if r.muckFinal = false ∧ LastOfItsRing x s ∧ r.status = .closed ∧ r.buildFinal = true ∧
                 r.groutFinal = true then .complete
             else r.status) ∧
           (r.muckFinal = false → LastOfItsRing x s → r.status = .closed → r.buildFinal = true → r.groutFinal = true →
             EventWaits (.ringComplete x.ring) (finalizeSlice x s)) ∧
           r'.grout = r.grout ∧ r'.build = r.build ∧ r'.face = r.face) ∧
       (finalizeSlice x s).mbu.belt = s.mbu.belt ∧ (finalizeSlice x s).chm = s.chm ∧ (finalizeSlice x s).gru = s.gru ∧
       (finalizeSlice x s).rru.active = s.rru.active ∧ (finalizeSlice x s).rru.queue = s.rru.queue) ∧
    (x ∈ s.mbu.slices → x.state ≠ .final → x.state ≠ .opened →
     s.mbu.openingPending = true → s.mbu.slices.length ≤ 32 → s.rru.active = some a →
     m = finalizeSlice x { s with mbu := { s.mbu with openingPending := false } } →
     (finalizeSlice x s).mbu =
         { m.mbu with
           nextIndex := (finalizeSlice x s).mbu.nextIndex
           slices := slicesWith a (sliceOpenedAt (s.mbu.strokeRing.getD 0) s.mbu.nextIndex s.mbu.strokeAdvance s) s
             m.mbu.slices } ∧
       m.mbu.openingPending = false ∧
       (s.mbu.nextIndex < 255 → (finalizeSlice x s).mbu.nextIndex = s.mbu.nextIndex + 1) ∧
       (finalizeSlice x s).abu.caps.muck =
         (if (nodeOf s .belt).state = .silent ∨ (nodeOf s .belt).state = .fault then .rate 0
         else if m.mbu.overdig = .active then .rate (s.abu.caps.plan / 2)
         else .noLimit) ∧
       withoutHolds (finalizeSlice x s).rru.records = withoutHolds m.rru.records ∧ (finalizeSlice x s).clp = m.clp ∧
       (finalizeSlice x s).fbu = m.fbu ∧ (finalizeSlice x s).chm = s.chm ∧ (finalizeSlice x s).gru = s.gru ∧
       (finalizeSlice x s).rru.active = s.rru.active ∧ (finalizeSlice x s).rru.queue = s.rru.queue)

/-! ## Grout -/

/-- A GROUT sample stores the pressure and judges it: at P_burst the line is BLOCKED, a RUNNING line above P_max is
HELD, a HELD one below P_resume returns to RUNNING in BORING and to IDLE elsewhere; the issue check follows. (That it
follows even when the pressure is the one held is the model's choice of log 41; that the sample is where the pressure
settings take effect on the line is log 48.) -/
def Obligations.GroutSampleJudgesThePressure : Prop :=
  ∀ (address sequence : Byte) (p : List Byte) (l : Fin 6) (s m : State),
    HeardWell s (.grout l) { kind := 0x01, address := address, sequence := sequence, payload := p } →
    m = withLine (heardOnly s (.grout l) sequence) l 
        { lineOf s l with
          pressure := some (natAt p 0 2), pMaxInForce := s.cfb.grout.pMax, pResumeInForce := s.cfb.grout.pResume } →
    s.cfb.grout.pResume < s.cfb.grout.pMax → s.cfb.grout.pMax < s.cfb.grout.pBurst →
    ((lineOf s l).state ≠ .blocked → s.cfb.grout.pBurst ≤ natAt p 0 2 →
      exec (.groutSample address sequence p) s = .next (settle (issueCheck l (blockAndCheck l .pressure m)))) ∧
    ((lineOf s l).state = .running → s.cfb.grout.pMax < natAt p 0 2 → natAt p 0 2 < s.cfb.grout.pBurst →
      exec (.groutSample address sequence p) s =
        .next (settle (issueCheck l
          { withLine m l { lineOf m l with state := .held } with
            clp := toldClp (some (.lineHeld l (natAt p 0 2))) s }))) ∧
    ((lineOf s l).state = .held → natAt p 0 2 < s.cfb.grout.pResume →
      exec (.groutSample address sequence p) s =
        .next (settle (issueCheck l
          { withLine m l
              { lineOf m l with
                state := if s.abu.phase = .boring then .running else .idle
                periodTimer :=
                  if s.abu.phase ≠ .boring then .stopped
                  else if (lineOf s l).mode = .free ∧ (lineOf s l).periodTimer = .stopped then
                    .running s.ms (lineOf s l).period
                  else (lineOf s l).periodTimer } with
            clp := toldClp (some (.lineResumed l (natAt p 0 2))) s }))) ∧
    (((lineOf s l).state = .blocked ∨ natAt p 0 2 < s.cfb.grout.pBurst) →
      ((lineOf s l).state ≠ .running ∨ natAt p 0 2 ≤ s.cfb.grout.pMax) →
      ((lineOf s l).state ≠ .held ∨ s.cfb.grout.pResume ≤ natAt p 0 2) →
      exec (.groutSample address sequence p) s = .next (settle (issueCheck l m)))

/-- A done report that matches no sent stroke of its kind changes nothing (that a stroke kind outside the table
matches none is the model's choice of log 11); one beyond the stroke's limit (log 20) blocks the line; a GROUT stroke
is credited to the grout ring, to its finishing ring (log 28), or to nothing known; a WATER stroke credits nothing,
whatever ring it carries, lowers the count of a finishing ring it belongs to (the model's choice of log 40), and the
last of a flush ends it, PAUSED below the P_resume in force on the line (log 48) and else, an absent pressure included
(log 21), BLOCKED. -/
def Obligations.DoneReportEndsTheStroke : Prop :=
  ∀ (address sequence : Byte) (p : List Byte) (l : Fin 6) (k : Stroke) (t : Stamp) (d ml : Nat) (s m c : State),
    HeardWell s (.grout l) { kind := 0x02, address := address, sequence := sequence, payload := p } → byteAt p 0 = 1 →
    ((lineOf s l).stroke = none →
      exec (.doneReport address sequence p) s = .next (settle (heardOnly s (.grout l) sequence))) ∧
    ((lineOf s l).stroke = some k → k.sent = false ∨ (byteAt p 1).toNat ≠ (if k.kind = .grout then 0 else 1) →
      exec (.doneReport address sequence p) s = .next (settle (heardOnly s (.grout l) sequence))) ∧
    ((lineOf s l).stroke = some k → k.sent = true → (byteAt p 1).toNat = (if k.kind = .grout then 0 else 1) →
      (lineOf s l).strokeTimer = .running t d → d < natAt p 2 4 →
      exec (.doneReport address sequence p) s =
        .next (settle (blockAndCheck l .stall (heardOnly s (.grout l) sequence)))) ∧
    ((lineOf s l).stroke = some k → k.sent = true → (byteAt p 1).toNat = (if k.kind = .grout then 0 else 1) →
      (lineOf s l).strokeTimer = .running t d → natAt p 2 4 ≤ d →
      ml = k.volume * min 1000 (natAt p 6 2) / 1000 →
      m = withLine (heardOnly s (.grout l) sequence) l { lineOf s l with stroke := none, strokeTimer := .stopped } →
      (k.kind = .grout → k.ring = none →
        exec (.doneReport address sequence p) s =
          .next (settle (issueCheck l
            { m with gru := { m.gru with unattributed := s.gru.unattributed + ml } }))) ∧
      (k.kind = .grout → k.ring.isSome = true → k.ring = s.gru.groutRing →
        exec (.doneReport address sequence p) s =
          .next (settle (postGrout (issueCheck l (creditedToRing m l (k.ring.getD 0) ml))))) ∧
      (k.kind = .grout → (∃ e ∈ s.gru.finishing, k.ring = some e.ring) → k.ring ≠ s.gru.groutRing →
        exec (.doneReport address sequence p) s =
          .next (settle (issueCheck l (endFinishingStroke (k.ring.getD 0) ml (postedToFinishing m l (k.ring.getD 0) ml))))) ∧
      (k.kind = .water →
        c = (if ∃ e ∈ s.gru.finishing, k.ring = some e.ring then endFinishingStroke (k.ring.getD 0) 0 m else m) →
        ((lineOf s l).state ≠ .flushing ∨ 0 < (lineOf s l).flush →
          exec (.doneReport address sequence p) s = .next (settle (issueCheck l c))) ∧
        ((lineOf s l).state = .flushing → (lineOf s l).flush = 0 →
          exec (.doneReport address sequence p) s =
            .next (settle (issueCheck l
              (if (lineOf s l).pressure.any (fun x => decide (x < (lineOf s l).pResumeInForce)) = true then
                { withLine c l { lineOf c l with state := .paused, periodTimer := .stopped } with
                  clp := toldClp (some (.lineFlushed l ((lineOf s l).pressure.getD 0))) c }
              else blockAndCheck l .pressure c))))))

/-- An entry of the finishing list loses a stroke in flight with its credit; with the last one its ring's grout part
is final with its demand and deficit, the entry leaves, and a CLOSED record with its other parts final becomes
COMPLETE with RING_COMPLETE. -/
def Obligations.FinishingRingsEndWithTheirLastStroke : Prop :=
  ∀ (e : Finishing) (credit : Nat) (r : RingRecord) (s : State), e ∈ s.gru.finishing →
    (s.gru.finishing.map Finishing.ring).Nodup → (s.rru.records.map fun x => x.plan.ring).Nodup →
    (1 < e.inFlight →
      endFinishingStroke e.ring credit s =
        { s with
          gru := { s.gru with
            finishing := s.gru.finishing.map fun x =>
              if x = e then { e with delivered := e.delivered + credit, inFlight := e.inFlight - 1 } else x } }) ∧
    (e.inFlight ≤ 1 →
      (endFinishingStroke e.ring credit s).gru = { s.gru with finishing := s.gru.finishing.filter fun x => x != e } ∧
        (endFinishingStroke e.ring credit s).mbu = s.mbu ∧ (endFinishingStroke e.ring credit s).abu = s.abu ∧
        (r ∈ s.rru.records → r.plan.ring = e.ring → r.groutFinal = false →
          (endFinishingStroke e.ring credit s).rru.records =
            s.rru.records.map fun x =>
              if x = r then
                { r with
                  grout :=
                    { r.grout with
                      demandMl := e.demand / 1000000
                      deficit := ((e.demand / 1000000 : Nat) : Int) - (e.delivered + credit : Nat) }
                  groutFinal := true, groutCut := false
                  status :=
                    if r.status = .closed ∧ r.buildFinal = true ∧ r.muckFinal = true then .complete else r.status }
              else x) ∧
        (r ∈ s.rru.records → r.plan.ring = e.ring → r.groutFinal = false → r.status = .closed → r.buildFinal = true →
          r.muckFinal = true → EventWaits (.ringComplete e.ring) (endFinishingStroke e.ring credit s)))

/-- An entry into BLOCKED: the cause, the stroke abandoned, with the count of a finishing ring it belongs to lowered
and the ring finished at the last, the counts and the period timer cleared, a STOP for the pump, LINE_BLOCKED, the
shares of all six lines formed anew from the base shares, and then the issue check of each line whose record this
changed (the model's choice of log 41). The posting of the GROUT entry: 0 with GROUT_HALT when all six lines have
become BLOCKED (log 22); else by the deficit "no limit", a part of the plan rate, or 0, with GROUT_LAG when the band
changes into LAG or STOP. -/
def Obligations.BlockedLineAndGroutEntry : Prop :=
  ∀ (l : Fin 6) (c : BlockCause) (s : State),
    ((allLines.map fun k => s.cfb.grout.baseShares[k]).sum = 1000 →
     lineOf (blockLine l c s) l =
         { lineOf s l with
           state := .blocked, cause := some c, stroke := none
           strokeTimer := if (lineOf s l).stroke.isSome then .stopped else (lineOf s l).strokeTimer
           topUp := 0, flush := 0, periodTimer := .stopped, share := 0 } ∧
       (∀ k : Fin 6, k ≠ l →
         lineOf (blockLine l c s) k = { lineOf s k with share := (lineOf (blockLine l c s) k).share }) ∧
       (∀ k : Fin 6, (lineOf s k).state = .blocked → (lineOf (blockLine l c s) k).share = 0) ∧
       ((∃ k : Fin 6, k ≠ l ∧ (lineOf s k).state ≠ .blocked) →
         (allLines.map fun k => (lineOf (blockLine l c s) k).share).sum = 1000) ∧
       ((∀ k : Fin 6, k ≠ l → (lineOf s k).state ≠ .blocked) →
         ∀ k : Fin 6, (lineOf (blockLine l c s) k).share =
           if k = l then 0
           else
             s.cfb.grout.baseShares[k] + (if k = l + 1 then (s.cfb.grout.baseShares[l] + 1) / 2 else 0) +
               (if k = l - 1 then s.cfb.grout.baseShares[l] / 2 else 0)) ∧
       ItemWaits (.pumpOrder l none) (blockLine l c s) ∧ EventWaits (.lineBlocked l c) (blockLine l c s) ∧
       (blockLine l c s).gru.finishing = (strokeAbandoned s l).gru.finishing ∧
       withoutHolds (blockLine l c s).rru.records = withoutHolds (strokeAbandoned s l).rru.records ∧
       (blockLine l c s).gru.demand = s.gru.demand ∧ (blockLine l c s).gru.delivered = s.gru.delivered ∧
       (blockLine l c s).fbu = s.fbu ∧ (blockLine l c s).chm = s.chm ∧ (blockLine l c s).mbu = s.mbu ∧
       ∀ k : Fin 6,
         lineOf (blockAndCheck l c s) k =
           if lineOf (blockLine l c s) k = lineOf s k then lineOf s k else lineOf (issueCheck k (blockLine l c s)) k) ∧
    (RateLaw s → s.cfb.grout.lagWarn < s.cfb.grout.lagStop →
     ((∀ l : Fin 6, (lineOf s l).state = .blocked) →
       (postGrout s).abu = abuWithCaps { s.abu.caps with grout := .rate 0 } s.abu ∧
         (postGrout s).gru = { s.gru with haltPosted := true } ∧
         (s.gru.haltPosted = false → EventWaits .groutHalt (postGrout s)) ∧
         (s.gru.haltPosted = true → (postGrout s).clp = s.clp)) ∧
     ((∃ l : Fin 6, (lineOf s l).state ≠ .blocked) →
       (postGrout s).abu = abuWithCaps { s.abu.caps with grout := (lagRow s).1 } s.abu ∧
         (postGrout s).gru = { s.gru with band := (lagRow s).2, haltPosted := false } ∧
         (postGrout s).clp =
           toldClp
             (if (lagRow s).2 = s.gru.band ∨ (lagRow s).2 = .none then none
             else some (.groutLag (capValue (lagRow s).1))) s))

/-! ## Laws that every step keeps -/

/-- No transmitter stands idle while its arbiter has something to send, after any step from a state where that holds.
(That the arbiters run at the end of each command is log 2, that the Machine Line chooses first log 49.) -/
def Obligations.EveryStepLeavesTheTransmittersSettled : Prop :=
  ∀ (s t : State), Settled s → step s = .next t → Settled t

/-- Every step keeps the bounds of the queues, 4 frames, 32 events, 18 items of 18 keys, 32 slices, 8 plans, 16
records; and requests are taken one at a time: a reply, waiting or on the line, belongs to the head of the receive
queue, and there is one exactly while a frame is there. -/
def Obligations.EveryStepKeepsTheQueueBounds : Prop :=
  ∀ (s t : State),
    (QueueBounds s → step s = .next t → QueueBounds t) ∧
    (OneRequest s → step s = .next t → OneRequest t)

/-- Every step keeps this: the effective rate is the least cap, the held indicator names the first zero entry in
BORING at rate 0, and the rate command sent is the effective rate in BORING and 0 elsewhere. -/
def Obligations.EveryStepKeepsTheRateLaw : Prop :=
  ∀ (s t : State), RateLaw s → step s = .next t → RateLaw t

/-- Every step keeps these laws together: HALTED alone holds a resume phase and a cause; a plan is active from READY
to closure; ring numbers are consecutive; only the newest record is OPEN, while its ring is bored or built; COMPLETE
needs the three final parts. -/
def Obligations.EveryStepKeepsTheCycleLaws : Prop :=
  ∀ (s t : State), HaltLaw s → PlanLaw s → NumberingLaw s → OpenLaw s → CompleteLaw s → step s = .next t →
    HaltLaw t ∧ PlanLaw t ∧ NumberingLaw t ∧ OpenLaw t ∧ CompleteLaw t

/-- Every step keeps the accounts: none names a ring later than the newest record, none names any ring while there is
no record, and the finishing list holds earlier rings, each with the strokes of it in flight. (That a WATER stroke of
a finishing ring lowers its count too is log 40.) -/
def Obligations.EveryStepKeepsTheAccounts : Prop :=
  ∀ (s t : State), HaltLaw s → PlanLaw s → NumberingLaw s → OpenLaw s → CompleteLaw s → AccountLaw s → FinishingLaw s →
    step s = .next t → AccountLaw t ∧ FinishingLaw t

/-- Every step keeps these laws together: while a RETRACT waits the phase is BUILDING, the face is VALID and the other
groups bear it, and a locked group is neither withdrawn nor has a RETRACT waiting. -/
def Obligations.EveryStepKeepsTheWithdrawalLaws : Prop :=
  ∀ (s t : State), KeysOnce s → OrderLaw s → HaltLaw s → SeatingLaw s → WithdrawalLaw s → step s = .next t →
    KeysOnce t ∧ OrderLaw t ∧ HaltLaw t ∧ SeatingLaw t ∧ WithdrawalLaw t ∧ (LockLaw s → LockLaw t)

/-- A RETRACT leaves the device only while the face is VALID, fewer than max_retracted other groups are not HOLDING,
and the HOLDING groups other than the one withdrawn bear the face; a lock is released only by START, RESTART and the
resets. -/
def Obligations.RetractLeavesAndLocksOpenByRule : Prop :=
  ∀ (s t : State) (g : Fin 7) (f : MachineFrame), step s = .next t →
    (KeysOnce s → OrderLaw s → HaltLaw s → SeatingLaw s → WithdrawalLaw s → t.mlp.tx = some f → s.mlp.tx ≠ some f →
      f.payload = commandPayload (.groupOrder g .retract 0) → MayWithdraw t g) ∧
    ((groupOf s g).lock = true →
      (groupOf t g).lock = true ∨ (s.abu.phase = .ready ∧ t.abu.phase = .boring) ∨
        t.abu.groups = Vector.replicate 7 State.reset.abu.groups[0])

/-- Every step keeps this: a BLOCKED line has no share; the others share 1000 permille; with all six BLOCKED the GROUT
entry is 0. -/
def Obligations.EveryStepKeepsTheShareLaw : Prop :=
  ∀ (s t : State), ShareLaw s → s.cfb.grout.baseShares.toList.sum = 1000 → step s = .next t →
    ShareLaw t ∧ t.cfb.grout.baseShares.toList.sum = 1000

/-- Every step keeps this: an accumulator never exceeds four strokes; a stroke in flight is unsent exactly while its
order waits, only a sent one has a running timer, and a line is BLOCKED exactly while it has a cause. -/
def Obligations.EveryStepKeepsAccumulatorsAndStrokes : Prop :=
  ∀ (s t : State), step s = .next t → (AccumulatorLaw s → AccumulatorLaw t) ∧
    (KeysOnce s → StrokeLaw s → StrokeLaw t)

/-- Every step keeps this: at most one slice is OPEN, the newest; a slice has a verdict exactly when it is FINAL; the
bias stays within bias_max; every setting stays within its range and its pairing. -/
def Obligations.EveryStepKeepsSlicesBiasAndSettings : Prop :=
  ∀ (s t : State), step s = .next t → (SliceLaw s → SliceLaw t) ∧ (BiasLaw s → BiasLaw t) ∧
    (SettingsLaw s → SettingsLaw t)

/-- The state after power-on reset meets every law that the statements say every step keeps. -/
def Obligations.ResetMeetsEveryLaw : Prop :=
  Settled State.reset ∧ QueueBounds State.reset ∧ OneRequest State.reset ∧ RateLaw State.reset ∧ HaltLaw State.reset ∧
    PlanLaw State.reset ∧ NumberingLaw State.reset ∧ OpenLaw State.reset ∧ CompleteLaw State.reset ∧
    AccountLaw State.reset ∧ FinishingLaw State.reset ∧ KeysOnce State.reset ∧ OrderLaw State.reset ∧
    SeatingLaw State.reset ∧ WithdrawalLaw State.reset ∧ LockLaw State.reset ∧ ShareLaw State.reset ∧
    AccumulatorLaw State.reset ∧ StrokeLaw State.reset ∧ SliceLaw State.reset ∧ BiasLaw State.reset ∧
    SettingsLaw State.reset
end

