-- ==== Sys2Proof/Laws/State.lean ====
section
/-! SUPPORT. The fields of the state after each update of one block: one lemma per field per update, so that no later proof
unfolds a record update. -/

namespace Sys2Proof.Machine

variable (s : State)

/-! ### Abu -/

@[simp] theorem State.onAbu_abu (f : Abu → Abu) : (s.onAbu f).abu = f s.abu := rfl
@[simp] theorem State.onAbu_fbu (f : Abu → Abu) : (s.onAbu f).fbu = s.fbu := rfl
@[simp] theorem State.onAbu_chm (f : Abu → Abu) : (s.onAbu f).chm = s.chm := rfl
@[simp] theorem State.onAbu_gru (f : Abu → Abu) : (s.onAbu f).gru = s.gru := rfl
@[simp] theorem State.onAbu_mbu (f : Abu → Abu) : (s.onAbu f).mbu = s.mbu := rfl
@[simp] theorem State.onAbu_rru (f : Abu → Abu) : (s.onAbu f).rru = s.rru := rfl
@[simp] theorem State.onAbu_mlp (f : Abu → Abu) : (s.onAbu f).mlp = s.mlp := rfl
@[simp] theorem State.onAbu_clp (f : Abu → Abu) : (s.onAbu f).clp = s.clp := rfl
@[simp] theorem State.onAbu_cfb (f : Abu → Abu) : (s.onAbu f).cfb = s.cfb := rfl
@[simp] theorem State.onAbu_ms (f : Abu → Abu) : (s.onAbu f).ms = s.ms := rfl
@[simp] theorem State.onAbu_pending (f : Abu → Abu) : (s.onAbu f).pending = s.pending := rfl

/-! ### Fbu -/

@[simp] theorem State.onFbu_abu (f : Fbu → Fbu) : (s.onFbu f).abu = s.abu := rfl
@[simp] theorem State.onFbu_fbu (f : Fbu → Fbu) : (s.onFbu f).fbu = f s.fbu := rfl
@[simp] theorem State.onFbu_chm (f : Fbu → Fbu) : (s.onFbu f).chm = s.chm := rfl
@[simp] theorem State.onFbu_gru (f : Fbu → Fbu) : (s.onFbu f).gru = s.gru := rfl
@[simp] theorem State.onFbu_mbu (f : Fbu → Fbu) : (s.onFbu f).mbu = s.mbu := rfl
@[simp] theorem State.onFbu_rru (f : Fbu → Fbu) : (s.onFbu f).rru = s.rru := rfl
@[simp] theorem State.onFbu_mlp (f : Fbu → Fbu) : (s.onFbu f).mlp = s.mlp := rfl
@[simp] theorem State.onFbu_clp (f : Fbu → Fbu) : (s.onFbu f).clp = s.clp := rfl
@[simp] theorem State.onFbu_cfb (f : Fbu → Fbu) : (s.onFbu f).cfb = s.cfb := rfl
@[simp] theorem State.onFbu_ms (f : Fbu → Fbu) : (s.onFbu f).ms = s.ms := rfl
@[simp] theorem State.onFbu_pending (f : Fbu → Fbu) : (s.onFbu f).pending = s.pending := rfl

/-! ### Chm -/

@[simp] theorem State.onChm_abu (f : Chm → Chm) : (s.onChm f).abu = s.abu := rfl
@[simp] theorem State.onChm_fbu (f : Chm → Chm) : (s.onChm f).fbu = s.fbu := rfl
@[simp] theorem State.onChm_chm (f : Chm → Chm) : (s.onChm f).chm = f s.chm := rfl
@[simp] theorem State.onChm_gru (f : Chm → Chm) : (s.onChm f).gru = s.gru := rfl
@[simp] theorem State.onChm_mbu (f : Chm → Chm) : (s.onChm f).mbu = s.mbu := rfl
@[simp] theorem State.onChm_rru (f : Chm → Chm) : (s.onChm f).rru = s.rru := rfl
@[simp] theorem State.onChm_mlp (f : Chm → Chm) : (s.onChm f).mlp = s.mlp := rfl
@[simp] theorem State.onChm_clp (f : Chm → Chm) : (s.onChm f).clp = s.clp := rfl
@[simp] theorem State.onChm_cfb (f : Chm → Chm) : (s.onChm f).cfb = s.cfb := rfl
@[simp] theorem State.onChm_ms (f : Chm → Chm) : (s.onChm f).ms = s.ms := rfl
@[simp] theorem State.onChm_pending (f : Chm → Chm) : (s.onChm f).pending = s.pending := rfl

/-! ### Gru -/

@[simp] theorem State.onGru_abu (f : Gru → Gru) : (s.onGru f).abu = s.abu := rfl
@[simp] theorem State.onGru_fbu (f : Gru → Gru) : (s.onGru f).fbu = s.fbu := rfl
@[simp] theorem State.onGru_chm (f : Gru → Gru) : (s.onGru f).chm = s.chm := rfl
@[simp] theorem State.onGru_gru (f : Gru → Gru) : (s.onGru f).gru = f s.gru := rfl
@[simp] theorem State.onGru_mbu (f : Gru → Gru) : (s.onGru f).mbu = s.mbu := rfl
@[simp] theorem State.onGru_rru (f : Gru → Gru) : (s.onGru f).rru = s.rru := rfl
@[simp] theorem State.onGru_mlp (f : Gru → Gru) : (s.onGru f).mlp = s.mlp := rfl
@[simp] theorem State.onGru_clp (f : Gru → Gru) : (s.onGru f).clp = s.clp := rfl
@[simp] theorem State.onGru_cfb (f : Gru → Gru) : (s.onGru f).cfb = s.cfb := rfl
@[simp] theorem State.onGru_ms (f : Gru → Gru) : (s.onGru f).ms = s.ms := rfl
@[simp] theorem State.onGru_pending (f : Gru → Gru) : (s.onGru f).pending = s.pending := rfl

/-! ### Mbu -/

@[simp] theorem State.onMbu_abu (f : Mbu → Mbu) : (s.onMbu f).abu = s.abu := rfl
@[simp] theorem State.onMbu_fbu (f : Mbu → Mbu) : (s.onMbu f).fbu = s.fbu := rfl
@[simp] theorem State.onMbu_chm (f : Mbu → Mbu) : (s.onMbu f).chm = s.chm := rfl
@[simp] theorem State.onMbu_gru (f : Mbu → Mbu) : (s.onMbu f).gru = s.gru := rfl
@[simp] theorem State.onMbu_mbu (f : Mbu → Mbu) : (s.onMbu f).mbu = f s.mbu := rfl
@[simp] theorem State.onMbu_rru (f : Mbu → Mbu) : (s.onMbu f).rru = s.rru := rfl
@[simp] theorem State.onMbu_mlp (f : Mbu → Mbu) : (s.onMbu f).mlp = s.mlp := rfl
@[simp] theorem State.onMbu_clp (f : Mbu → Mbu) : (s.onMbu f).clp = s.clp := rfl
@[simp] theorem State.onMbu_cfb (f : Mbu → Mbu) : (s.onMbu f).cfb = s.cfb := rfl
@[simp] theorem State.onMbu_ms (f : Mbu → Mbu) : (s.onMbu f).ms = s.ms := rfl
@[simp] theorem State.onMbu_pending (f : Mbu → Mbu) : (s.onMbu f).pending = s.pending := rfl

/-! ### Rru -/

@[simp] theorem State.onRru_abu (f : Rru → Rru) : (s.onRru f).abu = s.abu := rfl
@[simp] theorem State.onRru_fbu (f : Rru → Rru) : (s.onRru f).fbu = s.fbu := rfl
@[simp] theorem State.onRru_chm (f : Rru → Rru) : (s.onRru f).chm = s.chm := rfl
@[simp] theorem State.onRru_gru (f : Rru → Rru) : (s.onRru f).gru = s.gru := rfl
@[simp] theorem State.onRru_mbu (f : Rru → Rru) : (s.onRru f).mbu = s.mbu := rfl
@[simp] theorem State.onRru_rru (f : Rru → Rru) : (s.onRru f).rru = f s.rru := rfl
@[simp] theorem State.onRru_mlp (f : Rru → Rru) : (s.onRru f).mlp = s.mlp := rfl
@[simp] theorem State.onRru_clp (f : Rru → Rru) : (s.onRru f).clp = s.clp := rfl
@[simp] theorem State.onRru_cfb (f : Rru → Rru) : (s.onRru f).cfb = s.cfb := rfl
@[simp] theorem State.onRru_ms (f : Rru → Rru) : (s.onRru f).ms = s.ms := rfl
@[simp] theorem State.onRru_pending (f : Rru → Rru) : (s.onRru f).pending = s.pending := rfl

/-! ### Mlp -/

@[simp] theorem State.onMlp_abu (f : Mlp → Mlp) : (s.onMlp f).abu = s.abu := rfl
@[simp] theorem State.onMlp_fbu (f : Mlp → Mlp) : (s.onMlp f).fbu = s.fbu := rfl
@[simp] theorem State.onMlp_chm (f : Mlp → Mlp) : (s.onMlp f).chm = s.chm := rfl
@[simp] theorem State.onMlp_gru (f : Mlp → Mlp) : (s.onMlp f).gru = s.gru := rfl
@[simp] theorem State.onMlp_mbu (f : Mlp → Mlp) : (s.onMlp f).mbu = s.mbu := rfl
@[simp] theorem State.onMlp_rru (f : Mlp → Mlp) : (s.onMlp f).rru = s.rru := rfl
@[simp] theorem State.onMlp_mlp (f : Mlp → Mlp) : (s.onMlp f).mlp = f s.mlp := rfl
@[simp] theorem State.onMlp_clp (f : Mlp → Mlp) : (s.onMlp f).clp = s.clp := rfl
@[simp] theorem State.onMlp_cfb (f : Mlp → Mlp) : (s.onMlp f).cfb = s.cfb := rfl
@[simp] theorem State.onMlp_ms (f : Mlp → Mlp) : (s.onMlp f).ms = s.ms := rfl
@[simp] theorem State.onMlp_pending (f : Mlp → Mlp) : (s.onMlp f).pending = s.pending := rfl

/-! ### Clp -/

@[simp] theorem State.onClp_abu (f : Clp → Clp) : (s.onClp f).abu = s.abu := rfl
@[simp] theorem State.onClp_fbu (f : Clp → Clp) : (s.onClp f).fbu = s.fbu := rfl
@[simp] theorem State.onClp_chm (f : Clp → Clp) : (s.onClp f).chm = s.chm := rfl
@[simp] theorem State.onClp_gru (f : Clp → Clp) : (s.onClp f).gru = s.gru := rfl
@[simp] theorem State.onClp_mbu (f : Clp → Clp) : (s.onClp f).mbu = s.mbu := rfl
@[simp] theorem State.onClp_rru (f : Clp → Clp) : (s.onClp f).rru = s.rru := rfl
@[simp] theorem State.onClp_mlp (f : Clp → Clp) : (s.onClp f).mlp = s.mlp := rfl
@[simp] theorem State.onClp_clp (f : Clp → Clp) : (s.onClp f).clp = f s.clp := rfl
@[simp] theorem State.onClp_cfb (f : Clp → Clp) : (s.onClp f).cfb = s.cfb := rfl
@[simp] theorem State.onClp_ms (f : Clp → Clp) : (s.onClp f).ms = s.ms := rfl
@[simp] theorem State.onClp_pending (f : Clp → Clp) : (s.onClp f).pending = s.pending := rfl

/-! ### Cfb -/

@[simp] theorem State.onCfb_abu (f : Cfb → Cfb) : (s.onCfb f).abu = s.abu := rfl
@[simp] theorem State.onCfb_fbu (f : Cfb → Cfb) : (s.onCfb f).fbu = s.fbu := rfl
@[simp] theorem State.onCfb_chm (f : Cfb → Cfb) : (s.onCfb f).chm = s.chm := rfl
@[simp] theorem State.onCfb_gru (f : Cfb → Cfb) : (s.onCfb f).gru = s.gru := rfl
@[simp] theorem State.onCfb_mbu (f : Cfb → Cfb) : (s.onCfb f).mbu = s.mbu := rfl
@[simp] theorem State.onCfb_rru (f : Cfb → Cfb) : (s.onCfb f).rru = s.rru := rfl
@[simp] theorem State.onCfb_mlp (f : Cfb → Cfb) : (s.onCfb f).mlp = s.mlp := rfl
@[simp] theorem State.onCfb_clp (f : Cfb → Cfb) : (s.onCfb f).clp = s.clp := rfl
@[simp] theorem State.onCfb_cfb (f : Cfb → Cfb) : (s.onCfb f).cfb = f s.cfb := rfl
@[simp] theorem State.onCfb_ms (f : Cfb → Cfb) : (s.onCfb f).ms = s.ms := rfl
@[simp] theorem State.onCfb_pending (f : Cfb → Cfb) : (s.onCfb f).pending = s.pending := rfl

/-! ### One thrust group -/

@[simp] theorem onGroup_fbu (g : Fin 7) (f : Group → Group) : (onGroup g f s).fbu = s.fbu := rfl
@[simp] theorem onGroup_chm (g : Fin 7) (f : Group → Group) : (onGroup g f s).chm = s.chm := rfl
@[simp] theorem onGroup_gru (g : Fin 7) (f : Group → Group) : (onGroup g f s).gru = s.gru := rfl
@[simp] theorem onGroup_mbu (g : Fin 7) (f : Group → Group) : (onGroup g f s).mbu = s.mbu := rfl
@[simp] theorem onGroup_rru (g : Fin 7) (f : Group → Group) : (onGroup g f s).rru = s.rru := rfl
@[simp] theorem onGroup_mlp (g : Fin 7) (f : Group → Group) : (onGroup g f s).mlp = s.mlp := rfl
@[simp] theorem onGroup_clp (g : Fin 7) (f : Group → Group) : (onGroup g f s).clp = s.clp := rfl
@[simp] theorem onGroup_cfb (g : Fin 7) (f : Group → Group) : (onGroup g f s).cfb = s.cfb := rfl
@[simp] theorem onGroup_ms (g : Fin 7) (f : Group → Group) : (onGroup g f s).ms = s.ms := rfl
@[simp] theorem onGroup_pending (g : Fin 7) (f : Group → Group) : (onGroup g f s).pending = s.pending := rfl

/-! ### One sector -/

@[simp] theorem onSector_fbu (k : Fin 7) (f : Sector → Sector) : (onSector k f s).fbu = s.fbu := rfl
@[simp] theorem onSector_chm (k : Fin 7) (f : Sector → Sector) : (onSector k f s).chm = s.chm := rfl
@[simp] theorem onSector_gru (k : Fin 7) (f : Sector → Sector) : (onSector k f s).gru = s.gru := rfl
@[simp] theorem onSector_mbu (k : Fin 7) (f : Sector → Sector) : (onSector k f s).mbu = s.mbu := rfl
@[simp] theorem onSector_rru (k : Fin 7) (f : Sector → Sector) : (onSector k f s).rru = s.rru := rfl
@[simp] theorem onSector_mlp (k : Fin 7) (f : Sector → Sector) : (onSector k f s).mlp = s.mlp := rfl
@[simp] theorem onSector_clp (k : Fin 7) (f : Sector → Sector) : (onSector k f s).clp = s.clp := rfl
@[simp] theorem onSector_cfb (k : Fin 7) (f : Sector → Sector) : (onSector k f s).cfb = s.cfb := rfl
@[simp] theorem onSector_ms (k : Fin 7) (f : Sector → Sector) : (onSector k f s).ms = s.ms := rfl
@[simp] theorem onSector_pending (k : Fin 7) (f : Sector → Sector) : (onSector k f s).pending = s.pending := rfl

/-! ### One grout line -/

@[simp] theorem onLine_abu (l : Fin 6) (f : Line → Line) : (onLine l f s).abu = s.abu := rfl
@[simp] theorem onLine_fbu (l : Fin 6) (f : Line → Line) : (onLine l f s).fbu = s.fbu := rfl
@[simp] theorem onLine_chm (l : Fin 6) (f : Line → Line) : (onLine l f s).chm = s.chm := rfl
@[simp] theorem onLine_mbu (l : Fin 6) (f : Line → Line) : (onLine l f s).mbu = s.mbu := rfl
@[simp] theorem onLine_rru (l : Fin 6) (f : Line → Line) : (onLine l f s).rru = s.rru := rfl
@[simp] theorem onLine_mlp (l : Fin 6) (f : Line → Line) : (onLine l f s).mlp = s.mlp := rfl
@[simp] theorem onLine_clp (l : Fin 6) (f : Line → Line) : (onLine l f s).clp = s.clp := rfl
@[simp] theorem onLine_cfb (l : Fin 6) (f : Line → Line) : (onLine l f s).cfb = s.cfb := rfl
@[simp] theorem onLine_ms (l : Fin 6) (f : Line → Line) : (onLine l f s).ms = s.ms := rfl
@[simp] theorem onLine_pending (l : Fin 6) (f : Line → Line) : (onLine l f s).pending = s.pending := rfl

/-! ### One node entry -/

@[simp] theorem onNode_abu (r : Role) (f : Node → Node) : (onNode r f s).abu = s.abu := rfl
@[simp] theorem onNode_fbu (r : Role) (f : Node → Node) : (onNode r f s).fbu = s.fbu := rfl
@[simp] theorem onNode_chm (r : Role) (f : Node → Node) : (onNode r f s).chm = s.chm := rfl
@[simp] theorem onNode_gru (r : Role) (f : Node → Node) : (onNode r f s).gru = s.gru := rfl
@[simp] theorem onNode_mbu (r : Role) (f : Node → Node) : (onNode r f s).mbu = s.mbu := rfl
@[simp] theorem onNode_rru (r : Role) (f : Node → Node) : (onNode r f s).rru = s.rru := rfl
@[simp] theorem onNode_clp (r : Role) (f : Node → Node) : (onNode r f s).clp = s.clp := rfl
@[simp] theorem onNode_cfb (r : Role) (f : Node → Node) : (onNode r f s).cfb = s.cfb := rfl
@[simp] theorem onNode_ms (r : Role) (f : Node → Node) : (onNode r f s).ms = s.ms := rfl
@[simp] theorem onNode_pending (r : Role) (f : Node → Node) : (onNode r f s).pending = s.pending := rfl

/-! ### One event -/

@[simp] theorem queueEventFor_abu (n : Nat) (b : EventBody) : (queueEventFor n b s).abu = s.abu := rfl
@[simp] theorem queueEventFor_fbu (n : Nat) (b : EventBody) : (queueEventFor n b s).fbu = s.fbu := rfl
@[simp] theorem queueEventFor_chm (n : Nat) (b : EventBody) : (queueEventFor n b s).chm = s.chm := rfl
@[simp] theorem queueEventFor_gru (n : Nat) (b : EventBody) : (queueEventFor n b s).gru = s.gru := rfl
@[simp] theorem queueEventFor_mbu (n : Nat) (b : EventBody) : (queueEventFor n b s).mbu = s.mbu := rfl
@[simp] theorem queueEventFor_rru (n : Nat) (b : EventBody) : (queueEventFor n b s).rru = s.rru := rfl
@[simp] theorem queueEventFor_mlp (n : Nat) (b : EventBody) : (queueEventFor n b s).mlp = s.mlp := rfl
@[simp] theorem queueEventFor_cfb (n : Nat) (b : EventBody) : (queueEventFor n b s).cfb = s.cfb := rfl
@[simp] theorem queueEventFor_ms (n : Nat) (b : EventBody) : (queueEventFor n b s).ms = s.ms := rfl
@[simp] theorem queueEventFor_pending (n : Nat) (b : EventBody) : (queueEventFor n b s).pending = s.pending := rfl

/-! ### One event without a ring number of its own -/

@[simp] theorem queueEvent_abu (b : EventBody) : (queueEvent b s).abu = s.abu := rfl
@[simp] theorem queueEvent_fbu (b : EventBody) : (queueEvent b s).fbu = s.fbu := rfl
@[simp] theorem queueEvent_chm (b : EventBody) : (queueEvent b s).chm = s.chm := rfl
@[simp] theorem queueEvent_gru (b : EventBody) : (queueEvent b s).gru = s.gru := rfl
@[simp] theorem queueEvent_mbu (b : EventBody) : (queueEvent b s).mbu = s.mbu := rfl
@[simp] theorem queueEvent_rru (b : EventBody) : (queueEvent b s).rru = s.rru := rfl
@[simp] theorem queueEvent_mlp (b : EventBody) : (queueEvent b s).mlp = s.mlp := rfl
@[simp] theorem queueEvent_cfb (b : EventBody) : (queueEvent b s).cfb = s.cfb := rfl
@[simp] theorem queueEvent_ms (b : EventBody) : (queueEvent b s).ms = s.ms := rfl
@[simp] theorem queueEvent_pending (b : EventBody) : (queueEvent b s).pending = s.pending := rfl

/-! ### One command item -/

@[simp] theorem placeItem_abu (c : Command) : (placeItem c s).abu = s.abu := rfl
@[simp] theorem placeItem_fbu (c : Command) : (placeItem c s).fbu = s.fbu := rfl
@[simp] theorem placeItem_chm (c : Command) : (placeItem c s).chm = s.chm := rfl
@[simp] theorem placeItem_gru (c : Command) : (placeItem c s).gru = s.gru := rfl
@[simp] theorem placeItem_mbu (c : Command) : (placeItem c s).mbu = s.mbu := rfl
@[simp] theorem placeItem_rru (c : Command) : (placeItem c s).rru = s.rru := rfl
@[simp] theorem placeItem_clp (c : Command) : (placeItem c s).clp = s.clp := rfl
@[simp] theorem placeItem_cfb (c : Command) : (placeItem c s).cfb = s.cfb := rfl
@[simp] theorem placeItem_ms (c : Command) : (placeItem c s).ms = s.ms := rfl
@[simp] theorem placeItem_pending (c : Command) : (placeItem c s).pending = s.pending := rfl

/-! ### One record -/

@[simp] theorem onRecord_abu (n : Nat) (f : RingRecord → RingRecord) : (onRecord n f s).abu = s.abu := rfl
@[simp] theorem onRecord_fbu (n : Nat) (f : RingRecord → RingRecord) : (onRecord n f s).fbu = s.fbu := rfl
@[simp] theorem onRecord_chm (n : Nat) (f : RingRecord → RingRecord) : (onRecord n f s).chm = s.chm := rfl
@[simp] theorem onRecord_gru (n : Nat) (f : RingRecord → RingRecord) : (onRecord n f s).gru = s.gru := rfl
@[simp] theorem onRecord_mbu (n : Nat) (f : RingRecord → RingRecord) : (onRecord n f s).mbu = s.mbu := rfl
@[simp] theorem onRecord_mlp (n : Nat) (f : RingRecord → RingRecord) : (onRecord n f s).mlp = s.mlp := rfl
@[simp] theorem onRecord_clp (n : Nat) (f : RingRecord → RingRecord) : (onRecord n f s).clp = s.clp := rfl
@[simp] theorem onRecord_cfb (n : Nat) (f : RingRecord → RingRecord) : (onRecord n f s).cfb = s.cfb := rfl
@[simp] theorem onRecord_ms (n : Nat) (f : RingRecord → RingRecord) : (onRecord n f s).ms = s.ms := rfl
@[simp] theorem onRecord_pending (n : Nat) (f : RingRecord → RingRecord) : (onRecord n f s).pending = s.pending := rfl

/-! ### The open record -/

@[simp] theorem onOpenRecord_abu (f : RingRecord → RingRecord) : (onOpenRecord f s).abu = s.abu := rfl
@[simp] theorem onOpenRecord_fbu (f : RingRecord → RingRecord) : (onOpenRecord f s).fbu = s.fbu := rfl
@[simp] theorem onOpenRecord_chm (f : RingRecord → RingRecord) : (onOpenRecord f s).chm = s.chm := rfl
@[simp] theorem onOpenRecord_gru (f : RingRecord → RingRecord) : (onOpenRecord f s).gru = s.gru := rfl
@[simp] theorem onOpenRecord_mbu (f : RingRecord → RingRecord) : (onOpenRecord f s).mbu = s.mbu := rfl
@[simp] theorem onOpenRecord_mlp (f : RingRecord → RingRecord) : (onOpenRecord f s).mlp = s.mlp := rfl
@[simp] theorem onOpenRecord_clp (f : RingRecord → RingRecord) : (onOpenRecord f s).clp = s.clp := rfl
@[simp] theorem onOpenRecord_cfb (f : RingRecord → RingRecord) : (onOpenRecord f s).cfb = s.cfb := rfl
@[simp] theorem onOpenRecord_ms (f : RingRecord → RingRecord) : (onOpenRecord f s).ms = s.ms := rfl
@[simp] theorem onOpenRecord_pending (f : RingRecord → RingRecord) : (onOpenRecord f s).pending = s.pending := rfl

/-! ### The advance part -/

@[simp] theorem postAdvance_abu (f : AdvancePart → AdvancePart) : (postAdvance f s).abu = s.abu := rfl
@[simp] theorem postAdvance_fbu (f : AdvancePart → AdvancePart) : (postAdvance f s).fbu = s.fbu := rfl
@[simp] theorem postAdvance_chm (f : AdvancePart → AdvancePart) : (postAdvance f s).chm = s.chm := rfl
@[simp] theorem postAdvance_gru (f : AdvancePart → AdvancePart) : (postAdvance f s).gru = s.gru := rfl
@[simp] theorem postAdvance_mbu (f : AdvancePart → AdvancePart) : (postAdvance f s).mbu = s.mbu := rfl
@[simp] theorem postAdvance_mlp (f : AdvancePart → AdvancePart) : (postAdvance f s).mlp = s.mlp := rfl
@[simp] theorem postAdvance_clp (f : AdvancePart → AdvancePart) : (postAdvance f s).clp = s.clp := rfl
@[simp] theorem postAdvance_cfb (f : AdvancePart → AdvancePart) : (postAdvance f s).cfb = s.cfb := rfl
@[simp] theorem postAdvance_ms (f : AdvancePart → AdvancePart) : (postAdvance f s).ms = s.ms := rfl
@[simp] theorem postAdvance_pending (f : AdvancePart → AdvancePart) : (postAdvance f s).pending = s.pending := rfl

/-! ### The face part -/

@[simp] theorem postFacePart_abu (f : FacePart → FacePart) : (postFacePart f s).abu = s.abu := rfl
@[simp] theorem postFacePart_fbu (f : FacePart → FacePart) : (postFacePart f s).fbu = s.fbu := rfl
@[simp] theorem postFacePart_chm (f : FacePart → FacePart) : (postFacePart f s).chm = s.chm := rfl
@[simp] theorem postFacePart_gru (f : FacePart → FacePart) : (postFacePart f s).gru = s.gru := rfl
@[simp] theorem postFacePart_mbu (f : FacePart → FacePart) : (postFacePart f s).mbu = s.mbu := rfl
@[simp] theorem postFacePart_mlp (f : FacePart → FacePart) : (postFacePart f s).mlp = s.mlp := rfl
@[simp] theorem postFacePart_clp (f : FacePart → FacePart) : (postFacePart f s).clp = s.clp := rfl
@[simp] theorem postFacePart_cfb (f : FacePart → FacePart) : (postFacePart f s).cfb = s.cfb := rfl
@[simp] theorem postFacePart_ms (f : FacePart → FacePart) : (postFacePart f s).ms = s.ms := rfl
@[simp] theorem postFacePart_pending (f : FacePart → FacePart) : (postFacePart f s).pending = s.pending := rfl

/-! ### The cutter part -/

@[simp] theorem postCutterPart_abu (f : CutterPart → CutterPart) : (postCutterPart f s).abu = s.abu := rfl
@[simp] theorem postCutterPart_fbu (f : CutterPart → CutterPart) : (postCutterPart f s).fbu = s.fbu := rfl
@[simp] theorem postCutterPart_chm (f : CutterPart → CutterPart) : (postCutterPart f s).chm = s.chm := rfl
@[simp] theorem postCutterPart_gru (f : CutterPart → CutterPart) : (postCutterPart f s).gru = s.gru := rfl
@[simp] theorem postCutterPart_mbu (f : CutterPart → CutterPart) : (postCutterPart f s).mbu = s.mbu := rfl
@[simp] theorem postCutterPart_mlp (f : CutterPart → CutterPart) : (postCutterPart f s).mlp = s.mlp := rfl
@[simp] theorem postCutterPart_clp (f : CutterPart → CutterPart) : (postCutterPart f s).clp = s.clp := rfl
@[simp] theorem postCutterPart_cfb (f : CutterPart → CutterPart) : (postCutterPart f s).cfb = s.cfb := rfl
@[simp] theorem postCutterPart_ms (f : CutterPart → CutterPart) : (postCutterPart f s).ms = s.ms := rfl
@[simp] theorem postCutterPart_pending (f : CutterPart → CutterPart) : (postCutterPart f s).pending = s.pending := rfl

/-! ### The grout part -/

@[simp] theorem postGroutPart_abu (n : Nat) (f : GroutPart → GroutPart) : (postGroutPart n f s).abu = s.abu := rfl
@[simp] theorem postGroutPart_fbu (n : Nat) (f : GroutPart → GroutPart) : (postGroutPart n f s).fbu = s.fbu := rfl
@[simp] theorem postGroutPart_chm (n : Nat) (f : GroutPart → GroutPart) : (postGroutPart n f s).chm = s.chm := rfl
@[simp] theorem postGroutPart_gru (n : Nat) (f : GroutPart → GroutPart) : (postGroutPart n f s).gru = s.gru := rfl
@[simp] theorem postGroutPart_mbu (n : Nat) (f : GroutPart → GroutPart) : (postGroutPart n f s).mbu = s.mbu := rfl
@[simp] theorem postGroutPart_mlp (n : Nat) (f : GroutPart → GroutPart) : (postGroutPart n f s).mlp = s.mlp := rfl
@[simp] theorem postGroutPart_clp (n : Nat) (f : GroutPart → GroutPart) : (postGroutPart n f s).clp = s.clp := rfl
@[simp] theorem postGroutPart_cfb (n : Nat) (f : GroutPart → GroutPart) : (postGroutPart n f s).cfb = s.cfb := rfl
@[simp] theorem postGroutPart_ms (n : Nat) (f : GroutPart → GroutPart) : (postGroutPart n f s).ms = s.ms := rfl
@[simp] theorem postGroutPart_pending (n : Nat) (f : GroutPart → GroutPart) : (postGroutPart n f s).pending = s.pending := rfl

/-! ### The muck part -/

@[simp] theorem postMuckPart_abu (n : Nat) (f : MuckPart → MuckPart) : (postMuckPart n f s).abu = s.abu := rfl
@[simp] theorem postMuckPart_fbu (n : Nat) (f : MuckPart → MuckPart) : (postMuckPart n f s).fbu = s.fbu := rfl
@[simp] theorem postMuckPart_chm (n : Nat) (f : MuckPart → MuckPart) : (postMuckPart n f s).chm = s.chm := rfl
@[simp] theorem postMuckPart_gru (n : Nat) (f : MuckPart → MuckPart) : (postMuckPart n f s).gru = s.gru := rfl
@[simp] theorem postMuckPart_mbu (n : Nat) (f : MuckPart → MuckPart) : (postMuckPart n f s).mbu = s.mbu := rfl
@[simp] theorem postMuckPart_mlp (n : Nat) (f : MuckPart → MuckPart) : (postMuckPart n f s).mlp = s.mlp := rfl
@[simp] theorem postMuckPart_clp (n : Nat) (f : MuckPart → MuckPart) : (postMuckPart n f s).clp = s.clp := rfl
@[simp] theorem postMuckPart_cfb (n : Nat) (f : MuckPart → MuckPart) : (postMuckPart n f s).cfb = s.cfb := rfl
@[simp] theorem postMuckPart_ms (n : Nat) (f : MuckPart → MuckPart) : (postMuckPart n f s).ms = s.ms := rfl
@[simp] theorem postMuckPart_pending (n : Nat) (f : MuckPart → MuckPart) : (postMuckPart n f s).pending = s.pending := rfl

/-! ### One reply -/

@[simp] theorem placeReply_abu (k t : Byte) (a : Answer) : (placeReply k t a s).abu = s.abu := rfl
@[simp] theorem placeReply_fbu (k t : Byte) (a : Answer) : (placeReply k t a s).fbu = s.fbu := rfl
@[simp] theorem placeReply_chm (k t : Byte) (a : Answer) : (placeReply k t a s).chm = s.chm := rfl
@[simp] theorem placeReply_gru (k t : Byte) (a : Answer) : (placeReply k t a s).gru = s.gru := rfl
@[simp] theorem placeReply_mbu (k t : Byte) (a : Answer) : (placeReply k t a s).mbu = s.mbu := rfl
@[simp] theorem placeReply_rru (k t : Byte) (a : Answer) : (placeReply k t a s).rru = s.rru := rfl
@[simp] theorem placeReply_mlp (k t : Byte) (a : Answer) : (placeReply k t a s).mlp = s.mlp := rfl
@[simp] theorem placeReply_cfb (k t : Byte) (a : Answer) : (placeReply k t a s).cfb = s.cfb := rfl
@[simp] theorem placeReply_ms (k t : Byte) (a : Answer) : (placeReply k t a s).ms = s.ms := rfl
@[simp] theorem placeReply_pending (k t : Byte) (a : Answer) : (placeReply k t a s).pending = s.pending := rfl

/-! ### The cabin silence timer -/

@[simp] theorem restartSilence_abu : (restartSilence s).abu = s.abu := rfl
@[simp] theorem restartSilence_fbu : (restartSilence s).fbu = s.fbu := rfl
@[simp] theorem restartSilence_chm : (restartSilence s).chm = s.chm := rfl
@[simp] theorem restartSilence_gru : (restartSilence s).gru = s.gru := rfl
@[simp] theorem restartSilence_mbu : (restartSilence s).mbu = s.mbu := rfl
@[simp] theorem restartSilence_rru : (restartSilence s).rru = s.rru := rfl
@[simp] theorem restartSilence_mlp : (restartSilence s).mlp = s.mlp := rfl
@[simp] theorem restartSilence_cfb : (restartSilence s).cfb = s.cfb := rfl
@[simp] theorem restartSilence_ms : (restartSilence s).ms = s.ms := rfl
@[simp] theorem restartSilence_pending : (restartSilence s).pending = s.pending := rfl

end Sys2Proof.Machine
end

