-- ==== Sys2Proof/Laws/Ops.lean ====
section
/-! SUPPORT. What the shared operations do: tables, the event queue, the command queue, the ring table and the rate cap
table. -/

namespace Sys2Proof.Machine

/-! ## Fixed tables -/

/-- An update of a fixed table reads as the new entry at its number and as before elsewhere. -/
theorem updateAt_getElem {α : Type} {n : Nat} (t : Vector α n) (i k : Fin n) (f : α → α) :
    (updateAt t i f)[k] = if k = i then f t[i] else t[k] := by
  unfold updateAt
  by_cases h : k = i
  · subst h; simp
  · have : (i : Nat) ≠ k := fun e => h (Fin.ext e.symm)
    simp [h, this]

/-- A group record after a change of one group. -/
theorem groupOf_onGroup (g k : Fin 7) (f : Group → Group) (s : State) :
    groupOf (onGroup g f s) k = if k = g then f (groupOf s g) else groupOf s k :=
  updateAt_getElem s.abu.groups g k f

/-- A sector record after a change of one sector. -/
theorem sectorOf_onSector (j k : Fin 7) (f : Sector → Sector) (s : State) :
    sectorOf (onSector j f s) k = if k = j then f (sectorOf s j) else sectorOf s k :=
  updateAt_getElem s.abu.sectors j k f

/-- A line record after a change of one line. -/
theorem lineOf_onLine (l k : Fin 6) (f : Line → Line) (s : State) :
    lineOf (onLine l f s) k = if k = l then f (lineOf s l) else lineOf s k :=
  updateAt_getElem s.gru.lines l k f

/-- The numbers of the roles tell the roles apart. -/
theorem roleIndex_injective {q r : Role} (h : roleIndex q = roleIndex r) : q = r := by
  have v := congrArg Fin.val h
  cases q <;> cases r <;> simp only [roleIndex, Fin.isValue] at v <;> first
    | rfl
    | exact congrArg Role.grout (Fin.ext (by omega))
    | (exfalso; revert v; simp; try omega)

/-- A node entry after a change of one node. -/
theorem nodeOf_onNode (r q : Role) (f : Node → Node) (s : State) :
    nodeOf (onNode r f s) q = if q = r then f (nodeOf s r) else nodeOf s q := by
  have h : nodeOf (onNode r f s) q = if roleIndex q = roleIndex r then f (nodeOf s r) else nodeOf s q :=
    updateAt_getElem s.mlp.nodes (roleIndex r) (roleIndex q) f
  by_cases e : q = r
  · subst e; simpa using h
  · have : roleIndex q ≠ roleIndex r := fun x => e (roleIndex_injective x)
    simpa [e, this] using h

/-! ## The event queue (R149) -/

/-- The ring number of an event whose rule names none is the newest record's. -/
theorem newestRing_eq (s : State) : newestRing s = newestNumber s := by
  unfold newestRing newestNumber
  cases s.rru.records.getLast? <;> rfl

/-- Placing an event changes the event queue and the lost count, and nothing else. -/
theorem queueEventFor_eq (n : Nat) (b : EventBody) (s : State) :
    queueEventFor n b s = { s with clp := withEvent b n s.ms s.clp } := rfl

/-- The same for an event whose rule names no ring number. -/
theorem queueEvent_eq (b : EventBody) (s : State) :
    queueEvent b s = { s with clp := withEvent b (newestNumber s) s.ms s.clp } := by
  rw [← newestRing_eq]; rfl

/-- A placed event waits. -/
theorem eventWaits_queueEvent (b : EventBody) (s : State) : EventWaits b (queueEvent b s) := by
  refine ⟨⟨b, newestNumber s, s.ms⟩, ?_, rfl, by simp⟩
  rw [queueEvent_eq]
  unfold withEvent
  split <;> simp

/-- The event queue keeps its bound. -/
theorem withEvent_length (b : EventBody) (n : Nat) (now : Stamp) (c : Clp) (h : c.events.length ≤ 32) :
    (withEvent b n now c).events.length ≤ 32 := by
  unfold withEvent
  split
  · simp; omega
  · simp; omega

/-! ## The command queue (R137, R138) -/

/-- Placing an item changes the command queue and nothing else. -/
theorem placeItem_eq (c : Command) (s : State) :
    placeItem c s = { s with mlp := { s.mlp with queue := placedQueue c s.mlp.queue } } := rfl

/-- A replacement keeps the keys of the queue. -/
theorem replaceItem_keys (c : Command) (q : List Item) :
    (replaceItem c q).map (fun i => keyOf i.command) = q.map fun i => keyOf i.command := by
  unfold replaceItem hasKey
  rw [List.map_map]
  refine List.map_congr_left fun i _ => ?_
  by_cases h : keyOf i.command = keyOf c <;> simp [h]

/-- The keys after an item is placed: the same when its key waits, else one more at the tail. -/
theorem placedQueue_keys (c : Command) (q : List Item) :
    (placedQueue c q).map (fun i => keyOf i.command) =
      if keyOf c ∈ q.map (fun i => keyOf i.command) then q.map (fun i => keyOf i.command)
      else q.map (fun i => keyOf i.command) ++ [keyOf c] := by
  have key : (q.any (hasKey (keyOf c)) = true) ↔ keyOf c ∈ q.map fun i => keyOf i.command := by
    simp [hasKey]
  unfold placedQueue
  by_cases h : q.any (hasKey (keyOf c)) = true
  · rw [if_pos h, if_pos (key.mp h), replaceItem_keys]
  · rw [if_neg h, if_neg (fun x => h (key.mpr x))]; simp

/-- Placing an item keeps the keys apart. -/
theorem placedQueue_nodup (c : Command) (q : List Item) (h : (q.map fun i => keyOf i.command).Nodup) :
    ((placedQueue c q).map fun i => keyOf i.command).Nodup := by
  rw [placedQueue_keys]
  split
  · exact h
  · rename_i n
    exact List.nodup_append.mpr ⟨h, by simp, fun a ha b hb => by rintro rfl; exact n (List.mem_singleton.mp hb ▸ ha)⟩

/-- A placed item waits. -/
theorem placedQueue_mem (c : Command) (q : List Item) : ∃ i ∈ placedQueue c q, i.command = c := by
  unfold placedQueue
  split
  · rename_i h
    obtain ⟨i, hi, hk⟩ := List.any_eq_true.mp h
    exact ⟨{ i with command := c }, List.mem_map.mpr ⟨i, hi, by simp [hk]⟩, rfl⟩
  · exact ⟨{ command := c, safety := false }, by simp, rfl⟩

/-- The items of other keys are those that waited before. -/
theorem mem_placedQueue_other (c : Command) (q : List Item) (i : Item) (h : keyOf i.command ≠ keyOf c) :
    i ∈ placedQueue c q ↔ i ∈ q := by
  unfold placedQueue replaceItem hasKey
  split
  · constructor
    · intro hi
      obtain ⟨j, hj, e⟩ := List.mem_map.mp hi
      split at e
      · exact absurd (congrArg (fun x => keyOf x.command) e).symm h
      · exact e ▸ hj
    · intro hi
      exact List.mem_map.mpr ⟨i, hi, by simp [h]⟩
  · rw [List.mem_append]
    refine ⟨fun x => x.resolve_right fun e => h ?_, Or.inl⟩
    rw [List.mem_singleton.mp e]

/-- What is left of the queue behind the safe-stop items has none of their keys. -/
theorem safeStopQueue_rest (set : List Command) (q : List Item) (i : Item)
    (h : i ∈ safeStopQueue set q) : (i.safety = true ∧ i.command ∈ set) ∨ (i ∈ q ∧ ∀ c ∈ set, keyOf c ≠ keyOf i.command) := by
  unfold safeStopQueue at h
  rcases List.mem_append.mp h with h | h
  · obtain ⟨c, hc, rfl⟩ := List.mem_map.mp h
    exact .inl ⟨rfl, hc⟩
  · obtain ⟨hq, hk⟩ := List.mem_filter.mp h
    refine .inr ⟨hq, fun c hc e => ?_⟩
    simp [hasKey] at hk
    exact hk c hc e.symm

/-! ## The ring table (R128 to R130) -/

/-- A part made final changes the records and the event queue, and nothing else. -/
theorem makeFinal_frame (n : Nat) (p : FinalFlag) (cut : Bool) (s : State) :
    makeFinal n p cut s =
      { s with
        rru := { s.rru with records := (makeFinal n p cut s).rru.records }
        clp := { s.clp with events := (makeFinal n p cut s).clp.events, lost := (makeFinal n p cut s).clp.lost } } := by
  unfold makeFinal
  split
  · rfl
  · split
    · rfl
    · split
      · rw [queueEvent_eq]; unfold withEvent; split <;> rfl
      · rfl

/-! ## The rate cap table (R6 to R8) -/

/-- The command is sent when it differs from the one sent. -/
theorem sendRate_eq (r : Nat) (s : State) :
    sendRate r s =
      { s with abu := { s.abu with rateSent := r }, mlp := queueAfter (r != s.abu.rateSent) (.advanceRate r) s } := by
  unfold sendRate queueAfter
  by_cases h : r = s.abu.rateSent
  · subst h; simp
  · simp [h, placeItem_eq, State.onAbu]

/-- A hold is counted in BORING alone, in the OPEN record alone. -/
theorem countHold_eq (before after : Nat) (s : State) :
    countHold before after s =
      { s with
        rru := { s.rru with
          records := if s.abu.phase = .boring ∧ 0 < before ∧ after = 0 then heldRecords s else s.rru.records } } := by
  unfold countHold
  split <;> rfl

/-- The recomputation of the rate: effective rate, held indicator, command and hold count, and nothing else. -/
theorem recomputeRate_eq (s : State) :
    recomputeRate s =
      { s with
        abu := abuWithCaps s.abu.caps s.abu
        rru := { s.rru with
          records :=
            if s.abu.phase = .boring ∧ 0 < s.abu.effective ∧ leastCap s.abu.caps = 0 then heldRecords s
            else s.rru.records }
        mlp :=
          queueAfter (rateCommand s.abu.phase (leastCap s.abu.caps) != s.abu.rateSent)
            (.advanceRate (rateCommand s.abu.phase (leastCap s.abu.caps))) s } := by
  unfold recomputeRate
  simp only [countHold_eq, sendRate_eq]
  rfl

/-- The rate law holds after every recomputation. -/
theorem recomputeRate_law (s : State) : RateLaw (recomputeRate s) := by
  rw [recomputeRate_eq]
  exact ⟨rfl, rfl, rfl⟩

/-- In a state with the rate law the ABU with its own table is itself. -/
theorem abuWithCaps_self (s : State) (h : RateLaw s) : abuWithCaps s.abu.caps s.abu = s.abu := by
  obtain ⟨a, b, c⟩ := h
  unfold abuWithCaps
  rw [← a, ← b, ← c]

/-- A posting to the rate cap table. -/
theorem postCaps_posted (f : Caps → Caps) (s : State) (h : RateLaw s) :
    CapsPosted (f s.abu.caps) s (postCaps f s) ∧ (postCaps f s).clp = s.clp := by
  unfold postCaps
  by_cases e : f s.abu.caps = s.abu.caps
  · rw [if_pos e, e]
    have hr : rateCommand s.abu.phase (leastCap s.abu.caps) = s.abu.rateSent := by rw [← h.1]; exact h.2.2.symm
    refine ⟨⟨(abuWithCaps_self s h).symm, ?_, ?_, rfl, rfl, rfl, rfl, rfl, rfl, rfl, rfl, rfl, rfl⟩, rfl⟩
    · simp [hr, queueAfter]
    · rw [if_neg]
      rintro ⟨_, p, z⟩
      rw [h.1] at p; omega
  · rw [if_neg e, recomputeRate_eq]
    exact ⟨⟨rfl, rfl, rfl, rfl, rfl, rfl, rfl, rfl, rfl, rfl, rfl, rfl, rfl⟩, rfl⟩

/-- The rate law holds after every posting. -/
theorem postCaps_law (f : Caps → Caps) (s : State) (h : RateLaw s) : RateLaw (postCaps f s) := by
  unfold postCaps
  split
  · exact h
  · exact recomputeRate_law _

end Sys2Proof.Machine
end

