-- ==== Sys2Proof/Laws/Blocks.lean ====
section
/-! SUPPORT. What the blocks' own operations do that several commands share: orders to the screw, the gate and the groups,
changes of phase, issue checks, requests, and the two arbiters. -/

namespace Sys2Proof.Machine

/-! ## Orders (R40, R41, R60) -/

/-- The screw command is sent when it differs from the one sent. -/
theorem sendScrew_eq (v : Nat) (s : State) :
    sendScrew v s =
      { s with fbu := { s.fbu with screwSent := v }, mlp := queueAfter (v != s.fbu.screwSent) (.screwSpeed v) s } := by
  unfold sendScrew queueAfter
  by_cases h : v = s.fbu.screwSent
  · subst h; simp
  · simp [h, placeItem_eq, State.onFbu]

/-- The screw command is formed from the state. -/
theorem formScrew_eq (s : State) :
    formScrew s =
      { s with
        fbu := { s.fbu with screwSent := screwCommand s }
        mlp := queueAfter (screwCommand s != s.fbu.screwSent) (.screwSpeed (screwCommand s)) s } :=
  sendScrew_eq _ _

/-- The gate is ordered when the order differs from the one sent. -/
theorem orderGate_eq (g : Gate) (s : State) :
    orderGate g s =
      { s with fbu := { s.fbu with gateSent := g }, mlp := queueAfter (g != s.fbu.gateSent) (.screwGate g) s } := by
  unfold orderGate queueAfter
  by_cases h : g = s.fbu.gateSent
  · subst h; simp
  · simp [h, placeItem_eq, State.onFbu]

/-- An ordered group has its order waiting, its new state, and its move timer as R61 sets it; the other groups stay. -/
theorem groupOf_orderGroup (g k : Fin 7) (o : GroupOrder) (s : State) :
    groupOf (orderGroup g o s) k = if k = g then orderedGroup s o (groupOf s g) else groupOf s k :=
  groupOf_onGroup g k (orderedGroup s o) s

/-- The order of an ordered group waits. -/
theorem itemWaits_orderGroup (g : Fin 7) (o : GroupOrder) (s : State) : ItemWaits (groupCommand s g o) (orderGroup g o s) :=
  placedQueue_mem _ _

/-- An ordered group changes the groups and the command queue, and nothing else. -/
theorem orderGroup_frame (g : Fin 7) (o : GroupOrder) (s : State) :
    orderGroup g o s =
      { s with
        abu := { s.abu with groups := (orderGroup g o s).abu.groups }
        mlp := { s.mlp with queue := placedQueue (groupCommand s g o) s.mlp.queue } } := rfl

/-! ## Issue checks (R83) -/

/-- An issue check changes the line and the command queue, and nothing else. -/
theorem issueCheck_frame (l : Fin 6) (s : State) :
    issueCheck l s =
      { s with
        gru := { s.gru with lines := (issueCheck l s).gru.lines }
        mlp := { s.mlp with queue := (issueCheck l s).mlp.queue } } := by
  unfold issueCheck
  split
  · split <;> rfl
  · rfl

/-- The issue check of a line leaves the other lines alone, and keeps the line's state. -/
theorem lineOf_issueCheck (l k : Fin 6) (s : State) :
    (k ≠ l → lineOf (issueCheck l s) k = lineOf s k) ∧ (lineOf (issueCheck l s) k).state = (lineOf s k).state := by
  unfold issueCheck
  split
  · split
    · exact ⟨fun _ => rfl, rfl⟩
    · rename_i kind x hx
      have hl : ∀ t : State, lineOf (placeItem (.pumpOrder l (some (kind, s.cfb.grout.strokeMl))) t) k = lineOf t k :=
        fun _ => rfl
      rw [hl, lineOf_onLine]
      by_cases e : k = l
      · subst e
        refine ⟨fun h => absurd rfl h, ?_⟩
        simp only [if_true]
        unfold issueRow at hx
        unfold issuedLine
        split at hx
        · obtain ⟨-, rfl⟩ := by simpa using hx
          rfl
        · split at hx
          · obtain ⟨-, rfl⟩ := by simpa using hx
            rfl
          · split at hx
            · obtain ⟨-, rfl⟩ := by simpa using hx
              rfl
            · split at hx
              · obtain ⟨-, rfl⟩ := by simpa using hx
                rfl
              · exact absurd hx (by simp)
      · simp [e]
  · exact ⟨fun _ => rfl, rfl⟩

/-- The issue checks of all lines change the lines and the command queue, and nothing else. -/
theorem issueAll_frame (s : State) :
    issueAll s =
      { s with
        gru := { s.gru with lines := (issueAll s).gru.lines }
        mlp := { s.mlp with queue := (issueAll s).mlp.queue } } := by
  unfold issueAll
  generalize allLines = ls
  induction ls generalizing s with
  | nil => rfl
  | cons l ls ih =>
    simp only [List.foldl_cons]
    rw [ih (issueCheck l s), issueCheck_frame l s]

/-- The issue checks keep every line's state. -/
theorem issueAll_state (k : Fin 6) (s : State) : (lineOf (issueAll s) k).state = (lineOf s k).state := by
  unfold issueAll
  generalize allLines = ls
  induction ls generalizing s with
  | nil => rfl
  | cons l ls ih =>
    simp only [List.foldl_cons]
    rw [ih (issueCheck l s), (lineOf_issueCheck l k s).2]

/-- What an issue check makes of its own line depends on the line, the phase, the node, the settings, the grout ring and
the time alone. -/
theorem lineOf_issueCheck_own (l : Fin 6) (s t : State) (hl : lineOf s l = lineOf t l) (hp : s.abu.phase = t.abu.phase)
    (hn : s.mlp.nodes = t.mlp.nodes) (hc : s.cfb = t.cfb) (hr : s.gru.groutRing = t.gru.groutRing) (hm : s.ms = t.ms) :
    lineOf (issueCheck l s) l = lineOf (issueCheck l t) l := by
  have hi : mayIssue s l = mayIssue t l := by unfold mayIssue nodeOf; rw [hl, hp, hn]
  have place : ∀ (c : Command) (x : State), lineOf (placeItem c x) l = lineOf x l := fun _ _ => rfl
  unfold issueCheck
  rw [hi, hl, hc]
  split
  · split
    · exact hl
    · rw [place, place, lineOf_onLine, lineOf_onLine]
      simp only [if_true, issuedLine, periodAfterIssue, startedTimer, hc, hr, hm]
  · exact hl

/-- The issue checks of the lines whose records an event changed: each such line has had its check, every other line is as
it was, and nothing else but the command queue changes. -/
theorem issueChanged_frame (before s : State) :
    issueChanged before s =
      { s with
        gru := { s.gru with lines := (issueChanged before s).gru.lines }
        mlp := { s.mlp with queue := (issueChanged before s).mlp.queue } } := by
  have main : ∀ (ls : List (Fin 6)) (t : State),
      ls.foldl (fun t l => if sameLine before s l then t else issueCheck l t) t =
        { t with
          gru :=
            { t.gru with lines := (ls.foldl (fun t l => if sameLine before s l then t else issueCheck l t) t).gru.lines }
          mlp :=
            { t.mlp with
              queue := (ls.foldl (fun t l => if sameLine before s l then t else issueCheck l t) t).mlp.queue } } := by
    intro ls
    induction ls with
    | nil => intro t; rfl
    | cons l ls ih =>
      intro t
      simp only [List.foldl_cons]
      split
      · exact ih t
      · rw [ih (issueCheck l t), issueCheck_frame l t]
  exact main allLines s

/-- A line after the issue checks of the lines whose records an event changed. -/
theorem lineOf_issueChanged (k : Fin 6) (before s : State) :
    lineOf (issueChanged before s) k = if sameLine before s k then lineOf s k else lineOf (issueCheck k s) k := by
  have skip : ∀ (ls : List (Fin 6)) (t : State), k ∉ ls →
      lineOf (ls.foldl (fun t l => if sameLine before s l then t else issueCheck l t) t) k = lineOf t k := by
    intro ls
    induction ls with
    | nil => intro t _; rfl
    | cons l ls ih =>
      intro t hk
      simp only [List.foldl_cons]
      rw [ih _ (fun h => hk (List.mem_cons_of_mem _ h))]
      split
      · rfl
      · exact (lineOf_issueCheck l k t).1 fun e => hk (e ▸ List.mem_cons_self)
  have main : ∀ (ls : List (Fin 6)) (t : State), ls.Nodup → k ∈ ls → lineOf t k = lineOf s k →
      t.abu.phase = s.abu.phase → t.mlp.nodes = s.mlp.nodes → t.cfb = s.cfb → t.gru.groutRing = s.gru.groutRing →
      t.ms = s.ms →
      lineOf (ls.foldl (fun t l => if sameLine before s l then t else issueCheck l t) t) k =
        if sameLine before s k then lineOf s k else lineOf (issueCheck k s) k := by
    intro ls
    induction ls with
    | nil => intro t _ hk; exact absurd hk List.not_mem_nil
    | cons l ls ih =>
      intro t hd hk hl hp hn hc hr hm
      simp only [List.foldl_cons]
      rw [List.nodup_cons] at hd
      by_cases e : k = l
      · subst e
        rw [skip ls _ hd.1]
        split
        · exact hl
        · exact lineOf_issueCheck_own k t s hl hp hn hc hr hm
      · have hk' : k ∈ ls := (List.mem_cons.1 hk).resolve_left e
        split
        · exact ih t hd.2 hk' hl hp hn hc hr hm
        · refine ih _ hd.2 hk' (((lineOf_issueCheck l k t).1 e).trans hl) ?_ ?_ ?_ ?_ ?_ <;>
            rw [issueCheck_frame l t] <;> assumption
  have all : ∀ x : Fin 6, x ∈ allLines := by decide
  exact main allLines s (by decide) (all k) rfl rfl rfl rfl rfl rfl

/-! ## Changes of phase (R6, R7, R40, R83) -/

/-- A phase set: the rate is recomputed, and the rate law holds. -/
theorem setPhase_law (p : Phase) (s : State) : RateLaw (setPhase p s) ∧ (setPhase p s).abu.phase = p :=
  ⟨recomputeRate_law _, by unfold setPhase; rw [recomputeRate_eq]; rfl⟩

/-- What follows a change of phase leaves the ABU alone. -/
theorem followPhase_abu (s : State) : (followPhase s).abu = s.abu := by
  unfold followPhase
  rw [issueAll_frame, formScrew_eq]

/-- A change of phase keeps the rate law and sets the phase. -/
theorem changePhase_law (p : Phase) (s : State) (h : RateLaw s) :
    RateLaw (changePhase p s) ∧ (changePhase p s).abu.phase = p := by
  unfold changePhase
  split
  · rename_i e
    exact ⟨h, e.symm⟩
  · have := followPhase_abu (setPhase p s)
    obtain ⟨⟨a, b, c⟩, d⟩ := setPhase_law p s
    exact ⟨⟨by rw [this]; exact a, by rw [this]; exact b, by rw [this]; exact c⟩, by rw [this]; exact d⟩

/-! ## Requests (R143, R144) -/

/-- A whole, valid request that finds the receive queue empty goes to its owner. -/
theorem receiveFrame_served (f : CabinFrame) (row : CatalogueRow) (s : State) (h : s.clp.rxQueue = [])
    (hr : rowOf f.kind = some row) (ha : row.allows f.payload.length = true) :
    receiveFrame f s = serveRequest row.owner f (s.onClp fun c => { c with rxQueue := [f] }) := by
  unfold receiveFrame takeFrame
  simp [h, hr, ha]

/-- What an owner is handed: the frame is the head, and the silence timer has restarted. -/
theorem handed_eq (f : CabinFrame) (s : State) :
    restartSilence (s.onClp fun c => { c with rxQueue := [f] }) =
      { s with
        clp := { s.clp with rxQueue := [f], silenceTimer := .running s.ms s.cfb.link.cabinSilence } } := rfl

/-- The port after an owner that has left it alone. -/
theorem serveRequest_clp (owner : Owner) (f : CabinFrame) (s : State)
    (h : ∀ t, (owner f.payload t).1.clp = t.clp) :
    (serveRequest owner f (s.onClp fun c => { c with rxQueue := [f] })).clp =
      answeredClp f (owner f.payload (restartSilence (s.onClp fun c => { c with rxQueue := [f] }))).2 s := by
  unfold serveRequest answeredClp placeReply replyTo
  simp only [State.onClp, h]
  rfl

/-! ## The transmit arbiters (R139, R148) -/

/-- The Cabin Link's arbiter changes the CLP alone. -/
theorem arbitrateCabin_frame (s : State) : arbitrateCabin s = { s with clp := (arbitrateCabin s).clp } := by
  unfold arbitrateCabin sendDueStatus
  split
  · rfl
  · split
    · rfl
    · rfl
    · split
      · split <;> rfl
      · rfl

/-- One notice of transmission changes the groups' and the lines' records alone. -/
theorem giveNotice_frame (c : Command) (s : State) :
    giveNotice c s =
      { s with
        abu := { s.abu with groups := (giveNotice c s).abu.groups }
        gru := { s.gru with lines := (giveNotice c s).gru.lines } } := by
  unfold giveNotice
  split <;> rfl

/-- The frame of an item changes the MLP alone. -/
theorem sendItem_frame (c : Command) (s : State) : sendItem c s = { s with mlp := (sendItem c s).mlp } := by
  unfold sendItem
  simp only
  split <;> rfl

/-- The Machine Line's arbiter changes the MLP, the groups' and the lines' records alone. -/
theorem arbitrateMachine_frame (n : Nat) (s : State) :
    arbitrateMachine n s =
      { s with
        mlp := (arbitrateMachine n s).mlp
        abu := { s.abu with groups := (arbitrateMachine n s).abu.groups }
        gru := { s.gru with lines := (arbitrateMachine n s).gru.lines } } := by
  induction n generalizing s with
  | zero => rfl
  | succ n ih =>
    unfold arbitrateMachine
    split
    · rfl
    · split
      · rfl
      · rename_i i rest _
        have h : transmitItem i rest s =
            { s with
              mlp := (transmitItem i rest s).mlp
              abu := { s.abu with groups := (transmitItem i rest s).abu.groups }
              gru := { s.gru with lines := (transmitItem i rest s).gru.lines } } := by
          unfold transmitItem
          rw [giveNotice_frame, sendItem_frame]
          rfl
        rw [ih (transmitItem i rest s), h]

/-- The item chosen is in the queue, and the queue left is the rest. -/
theorem chooseItem_perm (frozen : Bool) (q rest : List Item) (i : Item) (h : chooseItem frozen q = some (i, rest)) :
    (i :: rest).Perm q ∧ (frozen = true → i.safety = true) := by
  induction q generalizing rest with
  | nil => simp [chooseItem] at h
  | cons j q ih =>
    unfold chooseItem at h
    split at h
    · rename_i c
      obtain ⟨rfl, rfl⟩ := by simpa using h
      refine ⟨List.Perm.refl _, fun f => ?_⟩
      simpa [f] using c
    · split at h
      · simp at h
      · rename_i k r hk
        obtain ⟨rfl, rfl⟩ := by simpa using h
        obtain ⟨p, f⟩ := ih r hk
        exact ⟨(List.Perm.swap _ _ _).trans (p.cons _), f⟩

/-! ## Steps -/

/-- Every command is answered with a next state. -/
theorem exec_next (c : Instr) (s : State) : ∃ t, exec c s = .next t := by
  cases c <;> exact ⟨_, rfl⟩

/-- Every step answers a next state. -/
theorem step_next (s : State) : ∃ t, step s = .next t := by
  unfold step
  split
  · exact ⟨_, rfl⟩
  · exact exec_next _ _

end Sys2Proof.Machine
end

