-- ==== Sys2Proof/Laws/Wire.lean ====
section
/-! SUPPORT. Field encodings and the receiver: lengths, and reading back what was written. -/

namespace Sys2Proof.Machine

/-- A number spelt in `w` bytes has `w` bytes. -/
@[simp] theorem bigEndian_length (w v : Nat) : (bigEndian w v).length = w := by
  induction w generalizing v with
  | zero => rfl
  | succ w ih => simp [bigEndian, ih]

/-- The number of bytes read on from a number already read. -/
theorem foldl_bigEndian (w v a : Nat) :
    (bigEndian w v).foldl (fun n b => 256 * n + b.toNat) a = a * 256 ^ w + v % 256 ^ w := by
  induction w generalizing a with
  | zero => simp [bigEndian, Nat.mod_one]
  | succ w ih =>
    simp only [bigEndian, List.foldl_cons, ih, BitVec.toNat_ofNat]
    have e : v % 256 ^ (w + 1) = v / 256 ^ w % 256 * 256 ^ w + v % 256 ^ w := by
      rw [pow_succ, Nat.mod_mul]; ring
    rw [e, pow_succ]
    norm_num
    ring

/-- What is spelt reads back, when it fits. -/
theorem fromBigEndian_bigEndian (w v : Nat) (h : v < 256 ^ w) : fromBigEndian (bigEndian w v) = v := by
  unfold fromBigEndian
  rw [foldl_bigEndian, Nat.mod_eq_of_lt h]
  simp

/-- An unsigned field has its width, whatever its value. -/
@[simp] theorem encNat_length (w v : Nat) : (encNat w v).length = w := by
  unfold encNat
  split <;> simp

/-- A signed field has its width, whatever its value. -/
@[simp] theorem encInt_length (w : Nat) (v : Int) : (encInt w v).length = w := by
  unfold encInt
  split <;> simp

/-- An unsigned field reads back, when it fits. -/
theorem fromBigEndian_encNat (w v : Nat) (h : v < 256 ^ w) : fromBigEndian (encNat w v) = v := by
  unfold encNat
  rw [if_pos h, fromBigEndian_bigEndian w v h]

/-- A CRC is two bytes. -/
@[simp] theorem crcBytes_length (body : List Byte) : (crcBytes body).length = 2 := by simp [crcBytes]

/-- A frame on the line has three bytes beside its body. -/
@[simp] theorem framed_length (body : List Byte) : (framed body).length = body.length + 3 := by simp [framed]

/-- The frame of a Cabin Link body is the frame that the body was made of. -/
theorem cabinFrameOf_cabinBody (f : CabinFrame) : cabinFrameOf (cabinBody f) = f := by
  simp [cabinFrameOf, cabinBody]

/-- The frame of a Machine Line body is the frame that the body was made of. -/
theorem machineFrameOf_machineBody (f : MachineFrame) : machineFrameOf (machineBody f) = f := by
  simp [machineFrameOf, machineBody]

/-- A receiver inside a frame that is not yet whole gathers the next byte. -/
theorem rxByte_gathers (header : Nat) (n b : Byte) (rest : List Byte)
    (h : rest.length + 2 < header + n.toNat + 2) :
    rxByte header (.gathering (n :: rest)) b = (.gathering (n :: rest ++ [b]), .nothing) := by
  unfold rxByte
  simp only
  rw [if_pos]
  simpa using h

end Sys2Proof.Machine
end

