-- ==== Sys2Proof/Tests/Slice0.lean ====
section
/-! SUPPORT. Tests: what is not well formed is refused, the manual's worked figures come out, and for every statement with
hypotheses a state and operands that meet them, clause by clause. -/

open Sys2Proof Sys2Proof.Machine

namespace Sys2Proof.Tests

/-! ## Small states -/

/-- A plan for a ring, with key sector 0. -/
def plan (n : Nat) : Plan :=
  { ring := n, keySector := 0, rate := 60, target := 200, cutterSpeed := 250, direction := .auto, fill := 1300
    density := 2000, additive := 300, lineModes := none, trims := [] }

/-- An active plan for a ring. -/
def activePlan (n : Nat) : ActivePlan := { plan := plan n, repeated := false }

/-- The default settings with Dc 6,600, Ds 6,300, addresses 1 to 12 and the derived values of R159. -/
def settings : Cfb :=
  { Cfb.reset with
    geometry := { Cfb.reset.geometry with dc := 6600, ds := 6300 }
    node := { Cfb.reset.node with address := #v[1, 2, 3, 4, 5, 6, 7, 8, 9, 10, 11, 12] }
    aFace := some 34211944, vVoid := some 3039 }

/-- A node that is LIVE, last heard under sequence number 9. -/
def liveNode : Node := { Node.reset with state := .live, lastSequence := some 9, silenceTimer := .running 0 300 }

/-- Commissioned, in IDLE, every node LIVE, the face VALID at 218 kPa, the screw at rest. -/
def idle : State :=
  { State.reset with
    cfb := settings
    mlp := { Mlp.reset with nodes := Vector.replicate 12 liveNode }
    fbu :=
      { Fbu.reset with
        pw := some 218, valid := true, count := 5, faceClass := some .inBand, tEff := some 200, echo := some (0, .closed) }
    abu := { Abu.reset with phase := .idle, advanceRef := some 1000 } }

/-- Under plan 7 at 60 mm/min in a phase. -/
def under (p : Phase) : State :=
  { idle with
    abu := { idle.abu with phase := p, caps := { Abu.reset.caps with plan := 60 }, effective := 60 }
    rru := { Rru.reset with active := some (activePlan 7) } }

/-- In READY. -/
def ready : State := under .ready

/-- A slice of ring 7. -/
def slice (index : Nat) (st : SliceState) : Slice :=
  { ring := 7, index := index, advanceStart := 0, length := 100, closePoint := none, bStart := 0, theoretical := some 7103
    measured := 0, state := st, verdict := none }

/-- The OPEN slice, to be closed at 600 mm of the stroke. -/
def openSlice : Slice :=
  { slice 5 .opened with advanceStart := 500, length := 0, closePoint := some 600, theoretical := none, bStart := 60000 }

/-- In BORING, 500 mm into a stroke from 1,000 to 2,600, the cutterhead RUNNING. -/
def boring : State :=
  { under .boring with
    abu :=
      { (under .boring).abu with
        rateSent := 60, strokeStart := 1000, strokeTarget := 2600, advanceRef := some 1500
        groups := Vector.replicate 7 { Group.reset with state := .pushing } }
    chm := { Chm.reset with state := .running, speedSent := 250, band := some .normal }
    gru := { Gru.reset settings.grout with groutRing := some 7 }
    mbu :=
      { Mbu.reset with
        slices := [openSlice], strokeRing := some 7, inProgress := true, strokeAdvance := 500, nextIndex := 6 }
    rru := { Rru.reset with active := some (activePlan 7), records := [openedRecord (activePlan 7)] } }

/-- After the stroke of ring 7, in a phase. -/
def after (p : Phase) : State :=
  { under p with
    abu := { (under p).abu with strokeStart := 1000, strokeTarget := 2600, advanceRef := some 2600 }
    gru := { Gru.reset settings.grout with groutRing := some 7 }
    mbu := { Mbu.reset with strokeRing := some 7, strokeAdvance := 1600 }
    rru := { Rru.reset with active := some (activePlan 7), records := [openedRecord (activePlan 7)] } }

/-- In STROKE_END, cutterhead and screw at rest. -/
def strokeEnd : State := after .strokeEnd

/-- In the build of ring 7, in a phase, sector 3 expected. -/
def inBuild (p : Phase) : State :=
  { after p with abu := { (after p).abu with buildOrder := some (buildOrderOf 0), expected := some 3 } }

/-- In BUILDING. -/
def building : State := inBuild .building

/-- In BUILD_SUSPENDED. -/
def suspended : State := inBuild .buildSuspended

/-- In HALTED out of a phase, for a cause. -/
def halted (p : Phase) (c : HaltCause) : State :=
  { after .halted with abu := { (after .halted).abu with resumePhase := some p, haltCause := some c } }

/-- BUILDING with sectors 1 to 6 PLACED, all groups HOLDING, and key sector 0 in a state. -/
def keyLeft (st : SectorState) : State :=
  { building with
    abu := { building.abu with
      expected := if st = .placed then none else some 0
      sectors := Vector.ofFn fun k : Fin 7 => { Sector.reset with state := if k = 0 then st else .placed } } }

/-- Another state with one group changed. -/
def withGroup (g : Fin 7) (st : GroupState) (s : State) : State := onGroup g (fun x => { x with state := st }) s

/-- Another state with one line changed. -/
def withState (l : Fin 6) (st : LineState) (s : State) : State := onLine l (fun x => { x with state := st }) s

/-- Another state with a stroke sent on a line, its timer at 20,000 ms. -/
def withStroke (l : Fin 6) (k : StrokeKind) (ring : Option Nat) (s : State) : State :=
  onLine l
    (fun x =>
      { x with
        stroke := some { kind := k, volume := 6000, ring := ring, issued := 0, sent := true }
        strokeTimer := .running 0 20000 }) s

/-- The stroke of `withStroke`. -/
def stroke (k : StrokeKind) (ring : Option Nat) : Stroke :=
  { kind := k, volume := 6000, ring := ring, issued := 0, sent := true }

/-- A frame at the head of the receive queue. -/
def holdFrame (tag : Byte) : CabinFrame := { kind := 0x0B, tag := tag, payload := [] }

/-- Another state with a command item waiting. -/
def waiting (c : Command) (s : State) : State :=
  { s with mlp := { s.mlp with queue := [{ command := c, safety := false }] } }

/-- A frame on the Machine Line. -/
def frame (kind address sequence : Byte) (p : List Byte) : MachineFrame :=
  { kind := kind, address := address, sequence := sequence, payload := p }

/-- A FACE sample with five cells at one reading. -/
def faceP (raw : Byte) : List Byte := [0, raw, 0, 0, raw, 0, 0, raw, 0, 0, raw, 0, 0, raw, 0, 0]

/-- A CUTTER sample: drive flag, speed 225, torque, roll. -/
def cutterP (flag : Byte) (torque roll : List Byte) : List Byte := [flag, 0, 225] ++ torque ++ roll ++ [0, 0, 0, 0]

/-- A THRUST sample: position, rate 50, seven positions. -/
def thrustP (position groups : List Byte) : List Byte := [0, 0] ++ position ++ [0, 50] ++ groups ++ [60, 0]

/-- A push of plan 8 with every field at the top of its range, with seven trims. -/
def pushP : List Byte :=
  [0, 8, 6, 0, 120, 3, 32, 1, 144, 2, 7, 208, 10, 240, 19, 136, 6, 0, 1, 0, 1, 0, 1, 7] ++
    [1, 44, 254, 212, 0, 0, 0, 1, 0, 2, 0, 3, 0, 4]

/-- The plan that `pushP` offers. -/
def pushed : Plan :=
  { ring := 8, keySector := 6, rate := 120, target := 800, cutterSpeed := 400, direction := .auto, fill := 2000
    density := 2800, additive := 5000, lineModes := some #v[.locked, .free, .locked, .free, .locked, .free]
    trims := [300, -300, 0, 1, 2, 3, 4] }

/-- IDLE with status due and every section copy as it stands. -/
def toldAll : State :=
  { idle with clp := { idle.clp with due := true, copies := Vector.ofFn fun k => some (copyOf k idle) } }

/-- The same with the last section never sent. -/
def toldFirst : State := { toldAll with clp := { toldAll.clp with copies := toldAll.clp.copies.set 6 none } }

/-- In BORING with line 0 RUNNING and owed a volume in ml. -/
def owed (ml : Nat) : State := onLine 0 (fun x => { x with state := .running, acc := ml * 1000000 }) boring

/-- In BORING with 32 slices, the oldest given. -/
def fullQueue (oldest : Slice) : State :=
  { boring with mbu := { boring.mbu with slices := oldest :: List.replicate 30 (slice 1 .travelling) ++ [openSlice] } }

/-- A slice of ring 7 that has arrived with a mass. -/
def arrived (kg : Nat) : Slice := { slice 4 .arriving with measured := kg }

/-- In BORING with that slice, after a number of OVER slices, ring 8 having a record too. -/
def judging (kg overs : Nat) : State :=
  { boring with
    mbu := { boring.mbu with slices := [arrived kg, openSlice], overRun := overs }
    rru := { boring.rru with records := [openedRecord (activePlan 7), openedRecord (activePlan 8)] } }

/-- In BORING with ring 6 finishing, one stroke of it in flight. -/
def finishing6 : State :=
  { boring with
    gru := { boring.gru with finishing := [{ ring := 6, demand := 0, delivered := 0, inFlight := 1 }] }
    rru := { boring.rru with records := [openedRecord (activePlan 6), openedRecord (activePlan 7)] } }

/-- In BUILDING with the RETRACT of group 3 waiting. -/
def ordered : State :=
  waiting (.groupOrder 3 .retract 0)
    (onGroup 3 (fun x => { x with state := .retracting, orderQueued := true, moveTimer := .running 0 60000 }) building)

/-- In BORING with 32 slices, none FINAL, and an opening waiting. -/
def openingWaits : State :=
  { fullQueue (slice 0 .travelling) with
    mbu := { (fullQueue (slice 0 .travelling)).mbu with openingPending := true } }

/-- In HALTED out of IDLE, with plan 8 waiting. -/
def planWaits : State :=
  { idle with
    abu := { idle.abu with phase := .halted, resumePhase := some .idle, haltCause := some .request }
    rru := { Rru.reset with queue := [plan 8] } }

/-- In READY under plan 8 with ring 6 finishing, ring 7 the grout ring with a slice left, and both records CLOSED, that of
ring 6 with its muck part final. -/
def accountsOpen : State :=
  { under .ready with
    gru :=
      { finishing6.gru with
        lines := (withStroke 0 .grout (some 6) finishing6).gru.lines, groutRing := some 7
        demand := 5000000000 }
    mbu := { Mbu.reset with slices := [slice 4 .arriving], strokeRing := some 7 }
    rru :=
      { Rru.reset with
        active := some (activePlan 8)
        records :=
          [{ openedRecord (activePlan 6) with status := .closed, buildFinal := true, muckFinal := true },
            { openedRecord (activePlan 7) with status := .closed, buildFinal := true }] } }

/-- In READY with 32 slices of earlier rings, the oldest in a state. -/
def fullOf (st : SliceState) : State :=
  { ready with mbu := { ready.mbu with slices := slice 0 st :: List.replicate 31 (slice 1 .travelling) } }

/-! ## Witnesses: each statement with hypotheses, clause by clause -/
theorem witness_idle_step_passes_one_millisecond :
    ∃ (s : State), s.pending = [] :=
  ⟨idle, by decide⟩

set_option maxRecDepth 4000 in
theorem witness_framed_bytes_are_their_commands :
    (∃ (c : Instr) (f : CabinFrame) (s : State), requestFrame c = some f ∧ f.payload.length ≤ 248 ∧ s.clp.receiver =
      .hunting) ∧
    (∃ (payload : List Byte) (s : State), payload.length ≤ 248 ∧ s.mlp.receiver = .hunting) :=
  ⟨⟨.ping 5 (List.replicate 248 1), { kind := 0x02, tag := 5, payload := List.replicate 248 1 }, idle, by decide⟩,
   ⟨List.replicate 248 0, idle, by decide⟩⟩

set_option maxRecDepth 4000 in
theorem witness_bad_frames_are_counted_or_turned_away :
    (∃ (body : List Byte) (n high low : Byte) (s : State), n.toNat ≤ 248 ∧ crcBytes (n :: body) ≠ [high, low] ∧
      s.clp.receiver = .hunting ∧ body.length = n.toNat + 2) ∧
    (∃ (body : List Byte) (n high low : Byte) (s : State), n.toNat ≤ 248 ∧ crcBytes (n :: body) ≠ [high, low] ∧
      s.mlp.receiver = .hunting ∧ body.length = n.toNat + 3) ∧
    (∃ (n : Byte) (s : State), 248 < n.toNat ∧ s.clp.receiver = .hunting) ∧
    (∃ (n : Byte) (s : State), 248 < n.toNat ∧ s.mlp.receiver = .hunting) ∧
    (∃ (gathered : List Byte) (s : State), s.clp.receiver = .gathering gathered) ∧
    (∃ (s : State), s.clp.receiver = .hunting) ∧
    (∃ (gathered : List Byte) (s : State), s.mlp.receiver = .gathering gathered) ∧
    (∃ (s : State), s.mlp.receiver = .hunting) ∧
    (∃ (kind : Byte) (s : State), s.clp.rxQueue = [] ∧ knownKind kind = false) ∧
    (∃ (c : Instr) (f : CabinFrame) (s : State), requestFrame c = some f ∧ s.clp.rxQueue = [] ∧ knownKind f.kind = true
      ∧ lengthAllowed f.kind.toNat f.payload.length = false) :=
  ⟨⟨[0x0B, 5], 0, 0, 0, idle, by decide⟩,
   ⟨[1, 4, 10], 0, 0, 0, idle, by decide⟩,
   ⟨249, idle, by decide⟩,
   ⟨249, idle, by decide⟩,
   ⟨[], { idle with clp := { idle.clp with receiver := .gathering [] } }, by decide⟩,
   ⟨idle, by decide⟩,
   ⟨[2, 1], { idle with mlp := { idle.mlp with receiver := .gathering [2, 1] } }, by decide⟩,
   ⟨idle, by decide⟩,
   ⟨0x25, idle, by decide⟩,
   ⟨.hold 5 [0], { kind := 0x0B, tag := 5, payload := [0] }, idle, by decide⟩⟩

theorem witness_requests_are_taken_one_at_a_time :
    (∃ (c : Instr) (f : CabinFrame) (s : State), requestFrame c = some f ∧ s.clp.rxQueue ≠ [] ∧ s.clp.rxQueue.length <
      4) ∧
    (∃ (c : Instr) (f : CabinFrame) (s : State), requestFrame c = some f ∧ 4 ≤ s.clp.rxQueue.length) ∧
    (∃ (s : State) (x : CabinTx), s.clp.tx = some x ∧ x.isReply = false) ∧
    (∃ (s : State) (x : CabinTx), s.clp.tx = some x ∧ x.isReply = true ∧ s.clp.rxQueue.length ≤ 1) ∧
    (∃ (s : State) (x : CabinTx) (ended f : CabinFrame) (rest : List CabinFrame), s.clp.tx = some x ∧ x.isReply = true ∧
      s.clp.rxQueue = ended :: f :: rest) ∧
    (∃ (s : State) (x : CabinTx) (ended f : CabinFrame) (c : Instr), s.clp.tx = some x ∧ x.isReply = true ∧
      s.clp.rxQueue = [ended, f] ∧ requestFrame c = some f) :=
  ⟨⟨.hold 9 [], holdFrame 9, { idle with clp := { idle.clp with rxQueue := [holdFrame 1, holdFrame 2, holdFrame 3] } },
     by decide⟩,
   ⟨.hold 9 [], holdFrame 9,
     { idle with clp := { idle.clp with rxQueue := [holdFrame 1, holdFrame 2, holdFrame 3, holdFrame 4] } }, by decide⟩,
   ⟨{ idle with clp := { idle.clp with tx := some { frame := holdFrame 0, isReply := false }, rxQueue := [] } },
     { frame := holdFrame 0, isReply := false }, by decide⟩,
   ⟨{ idle with clp := { idle.clp with tx := some { frame := holdFrame 0, isReply := true }, rxQueue := [holdFrame 1] } },
     { frame := holdFrame 0, isReply := true }, by decide⟩,
   ⟨{ idle with clp := { idle.clp with tx := some { frame := holdFrame 0, isReply := true }, rxQueue := [holdFrame 1, holdFrame 2, holdFrame 3, holdFrame 4] } },
     { frame := holdFrame 0, isReply := true }, holdFrame 1, holdFrame 2, [holdFrame 3, holdFrame 4], by decide⟩,
   ⟨{ idle with clp := { idle.clp with tx := some { frame := holdFrame 0, isReply := true }, rxQueue := [holdFrame 1, holdFrame 2] } },
     { frame := holdFrame 0, isReply := true }, holdFrame 1, holdFrame 2, .hold 2 [], by decide⟩⟩

theorem witness_settle_keeps_the_job_blocks :
    (∃ (s : State), s.mlp.tx.isSome = true) ∧
    (∃ (s : State), s.clp.tx.isSome = true) :=
  ⟨⟨{ idle with mlp := { idle.mlp with tx := some { kind := 0x10, address := 4, sequence := 0, payload := [] } } }, by
     decide⟩,
   ⟨{ idle with clp := { idle.clp with tx := some { frame := holdFrame 0, isReply := true }, rxQueue := [] } }, by
     decide⟩⟩

theorem witness_transmitters_send_in_order :
    (∃ (s : State) (r : CabinFrame), s.clp.tx = none ∧ s.clp.reply = some r) ∧
    (∃ (s : State) (e : Event) (rest : List Event), s.clp.tx = none ∧ s.clp.reply = none ∧ s.clp.events = e :: rest) ∧
    (∃ (s : State), s.clp.tx = none ∧ s.clp.reply = none ∧ s.clp.events = [] ∧ s.clp.due = false) ∧
    (∃ (s : State), s.clp.tx = none ∧ s.clp.reply = none ∧ s.clp.events = [] ∧ s.clp.due = true ∧ (∀ k : Fin 7,
      flagRaised s k = false)) ∧
    (∃ (s : State) (n : Fin 7), s.clp.tx = none ∧ s.clp.reply = none ∧ s.clp.events = [] ∧ s.clp.due = true ∧ flagRaised
      s n = true ∧ (∀ k : Fin 7, k < n → flagRaised s k = false)) ∧
    (∃ (s : State) (n : Nat) (i : Item), s.mlp.queue[n]? = some i ∧ (if s.mlp.frozen then i.safety = true ∧ ∀ j ∈
      s.mlp.queue.take n, j.safety = false else n = 0) ∧ addressOf s (roleOfKey (keyOf i.command)) ≠ 0) ∧
    (∃ (s : State), (∀ i ∈ s.mlp.queue, s.mlp.frozen = true ∧ i.safety = false)) ∧
    (∃ (s : State) (n : Nat) (i : Item), s.mlp.queue[n]? = some i ∧ (if s.mlp.frozen then i.safety = true ∧ ∀ j ∈
      s.mlp.queue.take n, j.safety = false else n = 0) ∧ addressOf s (roleOfKey (keyOf i.command)) = 0) :=
  ⟨⟨{ idle with clp := { idle.clp with reply := some (holdFrame 0) } }, holdFrame 0, by decide⟩,
   ⟨{ idle with clp := { idle.clp with events := [{ body := .hostSilent, ring := 7, stamp := 0 }] } },
     { body := .hostSilent, ring := 7, stamp := 0 }, [], by decide⟩,
   ⟨idle, by decide⟩,
   ⟨toldAll, by decide⟩,
   ⟨toldFirst, 6, by decide⟩,
   ⟨{ idle with mlp := { idle.mlp with frozen := true, queue := [{ command := .advanceRate 0, safety := false }, { command := .screwSpeed 0, safety := true }] } },
     1, { command := .screwSpeed 0, safety := true }, by decide⟩,
   ⟨{ idle with mlp := { idle.mlp with frozen := true, queue := [{ command := .advanceRate 0, safety := false }] } }, by
     decide⟩,
   ⟨waiting (.advanceRate 0) State.reset, 0, { command := .advanceRate 0, safety := false }, by decide⟩⟩

set_option maxRecDepth 4000 in
theorem witness_status_ping_and_line_read_answer :
    (∃ (n : Byte) (s : State), s.clp.rxQueue = [] ∧ 6 < n.toNat) ∧
    (∃ (p : List Byte) (s : State), s.clp.rxQueue = [] ∧ p.length ≤ 247) ∧
    (∃ (n : Byte) (s : State), s.clp.rxQueue = [] ∧ 5 < n.toNat) ∧
    (∃ (s : State), s.clp.rxQueue = [] ∧ s.rru.active = none) :=
  ⟨⟨7, idle, by decide⟩,
   ⟨List.replicate 247 0, idle, by decide⟩,
   ⟨6, idle, by decide⟩,
   ⟨idle, by decide⟩⟩

theorem witness_get_ring_slice_and_node_reads_answer :
    (∃ (group item : Byte) (s : State), s.clp.rxQueue = [] ∧ settingItem group.toNat item.toNat = none) ∧
    (∃ (group item : Byte) (s : State), ∃ i, s.clp.rxQueue = [] ∧ i ∈ settingItem group.toNat item.toNat) ∧
    (∃ (high low : Byte) (r : RingRecord) (s : State), s.clp.rxQueue = [] ∧ (if high.toNat * 256 + low.toNat = 0 then
      s.rru.records.getLast? else s.rru.records.find? fun x => x.plan.ring == high.toNat * 256 + low.toNat) = some r) ∧
    (∃ (high low : Byte) (s : State), s.clp.rxQueue = [] ∧ (if high.toNat * 256 + low.toNat = 0 then
      s.rru.records.getLast? else s.rru.records.find? fun x => x.plan.ring == high.toNat * 256 + low.toNat) = none) ∧
    (∃ (n : Byte) (s : State), ∃ x, s.clp.rxQueue = [] ∧ x ∈ s.mbu.slices[n.toNat]? ∧ n.toNat ≤ 31) ∧
    (∃ (n : Byte) (s : State), s.clp.rxQueue = [] ∧ s.mbu.slices.length ≤ n.toNat ∧ n.toNat ≤ 31) ∧
    (∃ (n : Byte) (s : State), s.clp.rxQueue = [] ∧ 31 < n.toNat) ∧
    (∃ (n : Byte) (s : State), s.clp.rxQueue = [] ∧ 11 < n.toNat) :=
  ⟨⟨8, 0, idle, by decide⟩,
   ⟨5, 9, idle, .baseShares, by decide⟩,
   ⟨0, 0, openedRecord (activePlan 7), boring, by decide⟩,
   ⟨0, 8, boring, by decide⟩,
   ⟨0, boring, openSlice, by decide⟩,
   ⟨31, boring, by decide⟩,
   ⟨32, boring, by decide⟩,
   ⟨12, idle, by decide⟩⟩

theorem witness_plan_drop_and_plan_list :
    ∃ (s : State), s.clp.rxQueue = [] :=
  ⟨ready, by decide⟩

theorem witness_hold_and_release_set_the_cabin_entry :
    ∃ (s : State), s.clp.rxQueue = [] ∧ RateLaw s :=
  ⟨boring, by decide⟩

theorem witness_start_opens_the_stroke :
    (∃ (p : ActivePlan) (a : Int) (s : State), s.clp.rxQueue = [] ∧ s.abu.phase = .ready ∧ s.rru.active = some p ∧
      s.abu.advanceRef = some a ∧ MayStart s ∧ RateLaw s ∧ (∀ r ∈ s.rru.records, r.status ≠ .opened ∧ r.plan.ring ≠
      p.plan.ring) ∧ s.rru.records.length ≤ 16) ∧
    (∃ (s : State), s.clp.rxQueue = [] ∧ s.abu.phase ≠ .ready) ∧
    (∃ (s : State), s.clp.rxQueue = [] ∧ s.abu.phase = .ready ∧ (¬MayStart s)) :=
  ⟨⟨activePlan 7, 1000, ready, by decide⟩,
   ⟨boring, by decide⟩,
   ⟨withGroup 6 .recovering ready, by decide⟩⟩

theorem witness_end_stroke_ends_the_stroke :
    (∃ (a : Int) (s : State), s.clp.rxQueue = [] ∧ s.abu.advanceRef = some a ∧ s.abu.phase ≠ .boring) ∧
    (∃ (a : Int) (s : State), s.clp.rxQueue = [] ∧ s.abu.advanceRef = some a ∧ s.abu.phase = .boring ∧ a -
      s.abu.strokeStart < (s.cfb.geometry.ringWidth : Int)) ∧
    (∃ (a : Int) (s : State), s.clp.rxQueue = [] ∧ s.abu.advanceRef = some a ∧ s.abu.phase = .boring ∧ RateLaw s ∧
      (s.cfb.geometry.ringWidth : Int) ≤ a - s.abu.strokeStart) :=
  ⟨⟨2600, strokeEnd, by decide⟩,
   ⟨2499, { boring with abu := { boring.abu with advanceRef := some 2499 } }, by decide⟩,
   ⟨2500, { boring with abu := { boring.abu with advanceRef := some 2500 } }, by decide⟩⟩

theorem witness_enter_build_forms_the_build_order :
    (∃ (p : ActivePlan) (s : State), s.clp.rxQueue = [] ∧ s.rru.active = some p ∧ s.abu.phase ≠ .strokeEnd) ∧
    (∃ (p : ActivePlan) (s : State), s.clp.rxQueue = [] ∧ s.rru.active = some p ∧ s.abu.phase = .strokeEnd ∧ s.chm.state
      ≠ .stopped) ∧
    (∃ (p : ActivePlan) (s : State), s.clp.rxQueue = [] ∧ s.rru.active = some p ∧ s.abu.phase = .strokeEnd ∧ s.chm.state
      = .stopped ∧ s.fbu.echo.map Prod.fst ≠ some 0) ∧
    (∃ (p : ActivePlan) (s : State), s.clp.rxQueue = [] ∧ s.rru.active = some p ∧ s.abu.phase = .strokeEnd ∧ s.chm.state
      = .stopped ∧ s.fbu.echo.map Prod.fst = some 0 ∧ RateLaw s) :=
  ⟨⟨activePlan 7, boring, by decide⟩,
   ⟨activePlan 7, { strokeEnd with chm := { Chm.reset with state := .stopping } }, by decide⟩,
   ⟨activePlan 7, { strokeEnd with fbu := { strokeEnd.fbu with echo := some (1, .closed) } }, by decide⟩,
   ⟨activePlan 7, strokeEnd, by decide⟩⟩

theorem witness_safe_stop_halts_the_machine :
    (∃ (s : State), s.clp.rxQueue = [] ∧ s.abu.phase ≠ .halted ∧ RateLaw s) ∧
    (∃ (s : State), s.clp.rxQueue = [] ∧ s.abu.phase = .halted) :=
  ⟨⟨boring, by decide⟩,
   ⟨halted .boring .request, by decide⟩⟩

theorem witness_resume_takes_up_the_halted_phase :
    (∃ (s : State), s.clp.rxQueue = [] ∧ s.abu.phase ≠ .halted) ∧
    (∃ (p : Phase) (n : Nat) (s : State), s.clp.rxQueue = [] ∧ s.abu.phase = .halted ∧ s.abu.resumePhase = some p ∧
      resumeFailure p s = some n) ∧
    (∃ (p : Phase) (s : State), s.clp.rxQueue = [] ∧ s.abu.phase = .halted ∧ s.abu.resumePhase = some p ∧ resumeFailure
      p s = none ∧ p ≠ .boring ∧ p ≠ .halted ∧ (p = .idle → s.rru.queue = []) ∧ RateLaw s) ∧
    (∃ (head : Plan) (s : State), s.clp.rxQueue = [] ∧ s.abu.phase = .halted ∧ s.abu.resumePhase = some .idle ∧
      resumeFailure .idle s = none ∧ s.rru.queue.head? = some head ∧ RateLaw s) ∧
    (∃ (q : ActivePlan) (a : Int) (s : State), s.clp.rxQueue = [] ∧ s.abu.phase = .halted ∧ s.abu.resumePhase = some
      .boring ∧ resumeFailure .boring s = none ∧ s.abu.advanceRef = some a ∧ s.abu.strokeTarget ≤ a ∧ s.rru.active =
      some q ∧ RateLaw s) ∧
    (∃ (q : ActivePlan) (a : Int) (s : State), s.clp.rxQueue = [] ∧ s.abu.phase = .halted ∧ s.abu.resumePhase = some
      .boring ∧ resumeFailure .boring s = none ∧ s.abu.advanceRef = some a ∧ a < s.abu.strokeTarget ∧ s.rru.active =
      some q ∧ RateLaw s) :=
  ⟨⟨ready, by decide⟩,
   ⟨.boring, 5, { halted .boring .request with fbu := Fbu.reset }, by decide⟩,
   ⟨.building, halted .building .request, by decide⟩,
   ⟨plan 8, planWaits, by decide⟩,
   ⟨activePlan 7, 2600, halted .boring .request, by decide⟩,
   ⟨activePlan 7, 2599,
     { halted .boring .request with abu := { (halted .boring .request).abu with advanceRef := some 2599 } }, by decide⟩⟩

theorem witness_commission_stores_the_derived_values :
    (∃ (s : State), s.clp.rxQueue = [] ∧ s.abu.phase ≠ .unconfigured ∧ s.abu.phase ≠ .idle) ∧
    (∃ (s : State), s.clp.rxQueue = [] ∧ (s.abu.phase = .unconfigured ∨ s.abu.phase = .idle) ∧ s.cfb.geometry.dc = 0) ∧
    (∃ (s : State), s.clp.rxQueue = [] ∧ (s.abu.phase = .unconfigured ∨ s.abu.phase = .idle) ∧ s.cfb.geometry.dc ≠ 0 ∧
      (¬DiametersFit s)) ∧
    (∃ (r : Role) (s : State), s.clp.rxQueue = [] ∧ (s.abu.phase = .unconfigured ∨ s.abu.phase = .idle) ∧ DiametersFit s
      ∧ addressOf s r = 0 ∧ (∀ x ∈ allRoles, (roleIndex x).val < (roleIndex r).val → addressOf s x ≠ 0)) ∧
    (∃ (r q : Role) (s : State), s.clp.rxQueue = [] ∧ (s.abu.phase = .unconfigured ∨ s.abu.phase = .idle) ∧ DiametersFit
      s ∧ (∀ x ∈ allRoles, addressOf s x ≠ 0) ∧ (roleIndex q).val < (roleIndex r).val ∧ addressOf s q = addressOf s r ∧
      (∀ x ∈ allRoles, ∀ y ∈ allRoles, (roleIndex x).val < (roleIndex y).val → addressOf s x = addressOf s y →
      (roleIndex q).val < (roleIndex x).val ∨ (x = q ∧ (roleIndex r).val ≤ (roleIndex y).val))) ∧
    (∃ (s : State), s.clp.rxQueue = [] ∧ (s.abu.phase = .unconfigured ∨ s.abu.phase = .idle) ∧ DiametersFit s ∧ (∀ x ∈
      allRoles, ∀ y ∈ allRoles, addressOf s x ≠ 0 ∧ (x ≠ y → addressOf s x ≠ addressOf s y)) ∧ s.rru.active = none ∧
      RateLaw s) :=
  ⟨⟨ready, by decide⟩,
   ⟨{ idle with abu := Abu.reset, cfb := { settings with geometry := { settings.geometry with dc := 0, ds := 6300 } } },
     by decide⟩,
   ⟨{ idle with abu := Abu.reset, cfb := { settings with geometry := { settings.geometry with dc := 6901, ds := 6300 } } },
     by decide⟩,
   ⟨.grout 5,
     { idle with cfb := { settings with node := { settings.node with address := #v[1, 2, 3, 4, 5, 6, 7, 8, 9, 10, 11, 0] } } },
     by decide⟩,
   ⟨.grout 4, .grout 1,
     { idle with cfb := { settings with node := { settings.node with address := #v[1, 2, 3, 4, 5, 6, 7, 20, 9, 10, 20, 12] } } },
     by decide⟩,
   ⟨idle, by decide⟩⟩

theorem witness_restart_returns_the_machine_to_rest :
    (∃ (s : State), s.clp.rxQueue = [] ∧ s.abu.phase ≠ .unconfigured ∧ s.abu.phase ≠ .idle ∧ s.abu.phase ≠ .ready) ∧
    (∃ (s : State), s.clp.rxQueue = [] ∧ (s.abu.phase = .unconfigured ∨ s.abu.phase = .idle ∨ s.abu.phase = .ready) ∧
      HaltLaw s ∧ PlanLaw s ∧ NumberingLaw s ∧ CompleteLaw s ∧ FinishingLaw s ∧ s.rru.records.length ≤ 16) ∧
    (∃ (tag : Byte) (x : CabinTx) (ended : CabinFrame) (rest : List CabinFrame) (s : State), (s.abu.phase =
      .unconfigured ∨ s.abu.phase = .idle ∨ s.abu.phase = .ready) ∧ s.clp.tx = some x ∧ x.isReply = true ∧ s.clp.rxQueue
      = ended :: { kind := 0x04, tag := tag, payload := [] } :: rest) :=
  ⟨⟨boring, by decide⟩,
   ⟨accountsOpen, by decide⟩,
   ⟨2, { frame := holdFrame 0, isReply := true }, holdFrame 1, [holdFrame 3, holdFrame 4],
     { idle with clp := { idle.clp with tx := some { frame := holdFrame 0, isReply := true }, rxQueue := [holdFrame 1, { kind := 0x04, tag := 2, payload := [] }, holdFrame 3, holdFrame 4] } },
     by decide⟩⟩

theorem witness_set_stores_the_clamped_value :
    (∃ (group item : Byte) (rest : List Byte) (s : State), s.clp.rxQueue = [] ∧ (rest.length = 4 ∨ rest.length = 12) ∧
      settingItem group.toNat item.toNat = none) ∧
    (∃ (group item : Byte) (rest : List Byte) (i : SettingItem) (s : State), s.clp.rxQueue = [] ∧ (rest.length = 4 ∨
      rest.length = 12) ∧ settingItem group.toNat item.toNat = some i ∧ (i = .aFace ∨ i = .vVoid)) ∧
    (∃ (group item : Byte) (rest : List Byte) (i : SettingItem) (s : State), s.clp.rxQueue = [] ∧ (rest.length = 4 ∨
      rest.length = 12) ∧ settingItem group.toNat item.toNat = some i ∧ i ≠ .aFace ∧ i ≠ .vVoid ∧ rest.length ≠ (if i =
      .baseShares then 12 else 4)) ∧
    (∃ (group item : Byte) (rest : List Byte) (i : SettingItem) (s : State), s.clp.rxQueue = [] ∧ (rest.length = 4 ∨
      rest.length = 12) ∧ settingItem group.toNat item.toNat = some i ∧ i ≠ .aFace ∧ i ≠ .vVoid ∧ rest.length = (if i =
      .baseShares then 12 else 4) ∧ ((group.toNat ≤ 1 ∧ s.abu.phase ≠ .unconfigured ∧ s.abu.phase ≠ .idle) ∨
      (group.toNat = 2 ∧ (s.abu.phase = .building ∨ s.abu.phase = .buildSuspended)))) ∧
    (∃ (group item : Byte) (v : List Byte) (i : SettingItem) (s : State), s.clp.rxQueue = [] ∧ v.length = 4 ∧
      settingItem group.toNat item.toNat = some i ∧ i ≠ .aFace ∧ i ≠ .vVoid ∧ i ≠ .baseShares ∧ (group.toNat ≤ 1 →
      s.abu.phase = .unconfigured ∨ s.abu.phase = .idle) ∧ (group.toNat = 2 → s.abu.phase ≠ .building ∧ s.abu.phase ≠
      .buildSuspended) ∧ RateLaw s ∧ SettingsLaw s) ∧
    (∃ (v : List Byte) (s : State), s.clp.rxQueue = [] ∧ v.length = 12) :=
  ⟨⟨8, 0, [0, 0, 0, 0], idle, by decide⟩,
   ⟨0, 10, [0, 0, 0, 0], .aFace, idle, by decide⟩,
   ⟨5, 9, [0, 0, 0, 0], .baseShares, idle, by decide⟩,
   ⟨1, 0, [0, 0, 0, 1], .address .face, ready, by decide⟩,
   ⟨3, 2, [0, 0, 0, 0], .biasMax, boring, by decide⟩,
   ⟨[0, 250, 0, 250, 0, 250, 0, 250, 0, 250, 0, 250], idle, by decide⟩⟩

theorem witness_offered_plans_lie_in_their_ranges :
    (∃ (p : List Byte), p.length = 38) ∧
    (∃ (p : List Byte), ∃ q m, p.length = 38 ∧ q ∈ offeredPlan p ∧ m ∈ q.lineModes) ∧
    (∃ (p : List Byte) (i : Fin 7), ∃ q, p.length = 38 ∧ q ∈ offeredPlan p ∧ i.val < q.trims.length) ∧
    (∃ (p : List Byte) (i : Fin 7), ∃ q, p.length = 38 ∧ q ∈ offeredPlan p ∧ i.val < (byteAt p 23).toNat) :=
  ⟨⟨pushP, by decide⟩,
   ⟨pushP, pushed, #v[.locked, .free, .locked, .free, .locked, .free], by decide⟩,
   ⟨pushP, 6, pushed, by decide⟩,
   ⟨pushP, 6, pushed, by decide⟩⟩

theorem witness_plan_push_is_judged_in_order :
    (∃ (p : List Byte) (s : State), s.clp.rxQueue = [] ∧ p.length = 38 ∧ offeredPlan p = none) ∧
    (∃ (p : List Byte) (q : Plan) (s : State), s.clp.rxQueue = [] ∧ p.length = 38 ∧ offeredPlan p = some q ∧
      (¬MayReplace q s) ∧ s.rru.queue.length = 8) ∧
    (∃ (p : List Byte) (q : Plan) (s : State), s.clp.rxQueue = [] ∧ p.length = 38 ∧ offeredPlan p = some q ∧
      (¬MayReplace q s) ∧ s.rru.queue.length < 8 ∧ (¬MayFollow q s)) ∧
    (∃ (p : List Byte) (q : Plan) (s : State), s.clp.rxQueue = [] ∧ p.length = 38 ∧ offeredPlan p = some q ∧
      (¬MayReplace q s) ∧ s.rru.queue.length < 8 ∧ MayFollow q s ∧ s.abu.phase ≠ .idle) ∧
    (∃ (p : List Byte) (q : Plan) (s : State), s.clp.rxQueue = [] ∧ p.length = 38 ∧ offeredPlan p = some q ∧ RateLaw s ∧
      (¬MayReplace q s) ∧ s.rru.queue = [] ∧ MayFollow q s ∧ s.abu.phase = .idle) ∧
    (∃ (p : List Byte) (q : Plan) (s : State), s.clp.rxQueue = [] ∧ p.length = 38 ∧ offeredPlan p = some q ∧ RateLaw s ∧
      MayReplace q s) :=
  ⟨⟨List.replicate 9 0 ++ [3] ++ List.replicate 28 0, ready, by decide⟩,
   ⟨pushP, pushed, { ready with rru := { ready.rru with queue := List.replicate 8 (plan 8) } }, by decide⟩,
   ⟨pushP, pushed, { ready with rru := { ready.rru with active := some (activePlan 6), queue := [] } }, by decide⟩,
   ⟨pushP, pushed, ready, by decide⟩,
   ⟨pushP, pushed, idle, by decide⟩,
   ⟨pushP, pushed, { ready with rru := { ready.rru with active := some { plan := plan 8, repeated := true } } }, by
     decide⟩⟩

theorem witness_retract_and_reseat_withdraw_the_group :
    (∃ (s : State), s.clp.rxQueue = [] ∧ s.abu.phase ≠ .building) ∧
    (∃ (n : Byte) (s : State), s.clp.rxQueue = [] ∧ s.abu.phase = .building ∧ 6 < n.toNat) ∧
    (∃ (n : Byte) (g : Fin 7) (s : State), ∃ a, s.clp.rxQueue = [] ∧ s.abu.phase = .building ∧ n = BitVec.ofNat 8 g.val
      ∧ a ∈ withdrawalAnswer (decide (s.abu.expected = some g ∧ (sectorOf s g).state = .empty)) s g) ∧
    (∃ (n : Byte) (g : Fin 7) (s : State), ∃ a, s.clp.rxQueue = [] ∧ s.abu.phase = .building ∧ n = BitVec.ofNat 8 g.val
      ∧ a ∈ withdrawalAnswer (decide ((sectorOf s g).state = .offset)) s g) ∧
    (∃ (g : Fin 7) (s : State), s.clp.rxQueue = [] ∧ s.abu.phase = .building ∧ (groupOf s g).lock = false ∧ (groupOf s
      g).state = .holding ∧ WithdrawalHolds s g ∧ s.abu.expected = some g ∧ (sectorOf s g).state = .empty) ∧
    (∃ (g : Fin 7) (s : State), s.clp.rxQueue = [] ∧ s.abu.phase = .building ∧ (groupOf s g).lock = false ∧ (groupOf s
      g).state = .holding ∧ WithdrawalHolds s g ∧ (sectorOf s g).state = .offset) :=
  ⟨⟨ready, by decide⟩,
   ⟨7, building, by decide⟩,
   ⟨4, 4, building, bare .refusedOrder, by decide⟩,
   ⟨3, 3, building, bare .refusedOrder, by decide⟩,
   ⟨3, building, by decide⟩,
   ⟨3, onSector 3 (fun x => { x with state := .offset, gap := some 45 }) building, by decide⟩⟩

theorem witness_accept_takes_the_sector_into_the_ring :
    (∃ (s : State), s.clp.rxQueue = [] ∧ s.abu.phase ≠ .building) ∧
    (∃ (n : Byte) (s : State), s.clp.rxQueue = [] ∧ s.abu.phase = .building ∧ 6 < n.toNat) ∧
    (∃ (n : Byte) (k : Fin 7) (s : State), s.clp.rxQueue = [] ∧ s.abu.phase = .building ∧ n = BitVec.ofNat 8 k.val ∧
      (sectorOf s k).state ≠ .offset) ∧
    (∃ (n : Byte) (k : Fin 7) (s : State), s.clp.rxQueue = [] ∧ s.abu.phase = .building ∧ n = BitVec.ofNat 8 k.val ∧
      (sectorOf s k).state = .offset ∧ (groupOf s k).state ≠ .holding) ∧
    (∃ (k : Fin 7) (s : State), s.clp.rxQueue = [] ∧ s.abu.phase = .building ∧ (sectorOf s k).state = .offset ∧ (groupOf
      s k).state = .holding ∧ (¬(∃ p ∈ s.rru.active, (p.plan.keySector = k ∨ (sectorOf s p.plan.keySector).state =
      .placed ∨ (sectorOf s p.plan.keySector).state = .accepted) ∧ ∀ g : Fin 7, (groupOf s g).state = .holding))) :=
  ⟨⟨ready, by decide⟩,
   ⟨7, building, by decide⟩,
   ⟨3, 3, building, by decide⟩,
   ⟨3, 3, withGroup 3 .shoving (onSector 3 (fun x => { x with state := .offset, gap := some 45 }) building), by decide⟩,
   ⟨3, onSector 3 (fun x => { x with state := .offset, gap := some 45 }) building, by decide⟩⟩

theorem witness_accept_of_the_last_sector_closes_the_ring :
    ∃ (k : Fin 7) (p : ActivePlan) (r : RingRecord) (s : State), s.clp.rxQueue = [] ∧ s.abu.phase = .building ∧
      (sectorOf s k).state = .offset ∧ s.rru.active = some p ∧ p.plan.keySector = k ∧ (∀ g : Fin 7, (groupOf s g).state
      = .holding) ∧ s.abu.expected = some k ∧ (∀ x : Fin 7, x ≠ k → (sectorOf s x).state = .placed ∨ (sectorOf s
      x).state = .accepted) ∧ s.rru.records.getLast? = some r ∧ r.status = .opened ∧ r.plan.ring = p.plan.ring ∧ RateLaw
      s ∧ HaltLaw s ∧ PlanLaw s ∧ NumberingLaw s ∧ OpenLaw s ∧ CompleteLaw s :=
  ⟨0, activePlan 7, openedRecord (activePlan 7), keyLeft .offset, by decide⟩

theorem witness_screw_face_and_cutter_modes :
    (∃ (s : State), s.clp.rxQueue = [] ∧ s.cfb.face.screwMin ≤ s.cfb.face.screwMax ∧ s.fbu.screwMode = .auto) ∧
    (∃ (s : State), s.clp.rxQueue = [] ∧ s.cfb.face.screwMin ≤ s.cfb.face.screwMax ∧ s.fbu.screwMode = .manual) ∧
    (∃ (n : Byte) (s : State), s.clp.rxQueue = [] ∧ n.toNat ≤ 1) ∧
    (∃ (n : Byte) (s : State), s.clp.rxQueue = [] ∧ 1 < n.toNat) ∧
    (∃ (s : State), s.clp.rxQueue = []) :=
  ⟨⟨boring, by decide⟩,
   ⟨{ boring with fbu := { boring.fbu with screwMode := .manual, manual := 500 } }, by decide⟩,
   ⟨1, idle, by decide⟩,
   ⟨2, idle, by decide⟩,
   ⟨boring, by decide⟩⟩

theorem witness_line_requests_act_on_one_line :
    (∃ (tag n : Byte) (s : State), ∃ k f, s.clp.rxQueue = [] ∧ 5 < n.toNat ∧ k ∈
      [Instr.linePause tag [n], .lineContinue tag [n], .lineClear tag [n], .lineTopup tag [n, 1], .lineMode tag [n, 0, 0, 0, 0, 0]]
      ∧ f ∈ requestFrame k) ∧
    (∃ (l : Fin 6) (s : State), s.clp.rxQueue = [] ∧ (lineOf s l).state = .blocked) ∧
    (∃ (l : Fin 6) (s : State), s.clp.rxQueue = [] ∧ (lineOf s l).state ≠ .blocked) ∧
    (∃ (l : Fin 6) (s : State), s.clp.rxQueue = [] ∧ (lineOf s l).state ≠ .paused) ∧
    (∃ (l : Fin 6) (s : State), s.clp.rxQueue = [] ∧ (lineOf s l).state = .paused) ∧
    (∃ (l : Fin 6) (s : State), s.clp.rxQueue = [] ∧ (lineOf s l).state ≠ .blocked) ∧
    (∃ (l : Fin 6) (s : State), s.clp.rxQueue = [] ∧ (lineOf s l).state = .blocked ∧ (nodeOf s (.grout l)).state ≠
      .live) ∧
    (∃ (l : Fin 6) (s : State), s.clp.rxQueue = [] ∧ (lineOf s l).state = .blocked ∧ (nodeOf s (.grout l)).state =
      .live) ∧
    (∃ (l : Fin 6) (s : State), s.clp.rxQueue = [] ∧ (lineOf s l).state ≠ .idle ∧ (lineOf s l).state ≠ .running) ∧
    (∃ (l : Fin 6) (s : State), s.clp.rxQueue = [] ∧ ((lineOf s l).state = .idle ∨ (lineOf s l).state = .running)) ∧
    (∃ (a : Byte) (s : State), s.clp.rxQueue = [] ∧ 1 < a.toNat) :=
  ⟨⟨5, 6, idle, .linePause 5 [6], { kind := 0x1A, tag := 5, payload := [6] }, by decide⟩,
   ⟨5, withState 5 .blocked boring, by decide⟩,
   ⟨5, withState 5 .flushing boring, by decide⟩,
   ⟨5, boring, by decide⟩,
   ⟨5, withState 5 .paused boring, by decide⟩,
   ⟨0, boring, by decide⟩,
   ⟨0, withState 0 .blocked { boring with mlp := Mlp.reset }, by decide⟩,
   ⟨0, withState 0 .blocked boring, by decide⟩,
   ⟨0, withState 0 .held boring, by decide⟩,
   ⟨0, boring, by decide⟩,
   ⟨2, boring, by decide⟩⟩

theorem witness_issue_check_follows_the_issue_table :
    (∃ (l : Fin 6) (s : State), (¬((lineOf s l).stroke = none ∧ s.abu.phase ≠ .halted ∧ (nodeOf s (.grout l)).state =
      .live) ∨ issuing s l = none)) ∧
    (∃ (l : Fin 6) (s : State), ∃ k, (lineOf s l).stroke = none ∧ s.abu.phase ≠ .halted ∧ (nodeOf s (.grout l)).state =
      .live ∧ k ∈ issuing s l) :=
  ⟨⟨0, withState 0 .running boring, by decide⟩,
   ⟨0, owed 6000, (.grout, { lineOf (owed 6000) 0 with acc := 0 }), by decide⟩⟩

theorem witness_freeze_unfreeze_and_their_timer :
    (∃ (s : State), s.clp.rxQueue = [] ∧ s.mlp.frozen = true) ∧
    (∃ (s : State), s.clp.rxQueue = [] ∧ s.mlp.frozen = false) ∧
    (∃ (s : State), isRunning s.mlp.freezeTimer = true) ∧
    (∃ (s : State), isRunning s.mlp.freezeTimer = false) :=
  ⟨⟨{ idle with mlp := { idle.mlp with frozen := true, freezeTimer := .running 0 10000 } }, by decide⟩,
   ⟨idle, by decide⟩,
   ⟨{ idle with mlp := { idle.mlp with frozen := true, freezeTimer := .running 0 10000 } }, by decide⟩,
   ⟨idle, by decide⟩⟩

theorem witness_node_frames_are_judged_against_the_node_table :
    (∃ (c : Instr) (f : MachineFrame) (s : State), nodeFrame c = some f ∧ (f.address = 0 ∨ (∀ x ∈ allRoles, addressOf s
      x ≠ f.address.toNat))) ∧
    (∃ (c : Instr) (f : MachineFrame) (r : Role) (s : State), nodeFrame c = some f ∧ TakenFor s r f.address ∧ (nodeOf s
      r).lastSequence = some f.sequence) ∧
    (∃ (c : Instr) (f : MachineFrame) (r : Role) (s : State), nodeFrame c = some f ∧ TakenFor s r f.address ∧ (nodeOf s
      r).lastSequence ≠ some f.sequence ∧ (entryHeard s r f).state = (nodeOf s r).state) ∧
    (∃ (c : Instr) (f : MachineFrame) (r : Role) (s : State), nodeFrame c = some f ∧ TakenFor s r f.address ∧ (nodeOf s
      r).lastSequence ≠ some f.sequence ∧ (entryHeard s r f).state ≠ (nodeOf s r).state) ∧
    (∃ (kind : Byte), kind ≠ 0x01) ∧
    (∃ (r : Role) (n : Node), (n.lastTransmitted = none ∨ r = .face ∨ r = .belt)) ∧
    (∃ (o : DriveOrder) (d : Direction) (v : Nat) (n : Node), n.lastTransmitted = some (.driveOrder o v d) ∧ v ≤ 65535) ∧
    (∃ (v : Nat) (n : Node), n.lastTransmitted = some (.screwSpeed v) ∧ v ≤ 65535) ∧
    (∃ (v : Nat) (n : Node), n.lastTransmitted = some (.advanceRate v) ∧ v ≤ 255) ∧
    (∃ (k : Fin 7) (n : Node), n.lastTransmitted = some (.nextSector (some k))) ∧
    (∃ (n : Node), n.lastTransmitted = some (.nextSector none)) ∧
    (∃ (l : Fin 6) (v : Nat) (x : StrokeKind) (n : Node), n.lastTransmitted = some (.pumpOrder l (some (x, v)))) ∧
    (∃ (l : Fin 6) (n : Node), n.lastTransmitted = some (.pumpOrder l none)) :=
  ⟨⟨.faceSample 13 10 (faceP 218), { kind := 0x01, address := 13, sequence := 10, payload := faceP 218 }, idle, by
     decide⟩,
   ⟨.faceSample 1 9 (faceP 218), { kind := 0x01, address := 1, sequence := 9, payload := faceP 218 }, .face, idle, by
     decide⟩,
   ⟨.faceSample 1 10 (faceP 218), { kind := 0x01, address := 1, sequence := 10, payload := faceP 218 }, .face, idle, by
     decide⟩,
   ⟨.faceSample 1 10 (faceP 218), { kind := 0x01, address := 1, sequence := 10, payload := faceP 218 }, .face, onNode
     .face (fun n => { n with state := .silent }) idle, by decide⟩,
   ⟨2, by decide⟩,
   ⟨.belt, Node.reset, by decide⟩,
   ⟨.run, .cw, 65535, { liveNode with lastTransmitted := some (.driveOrder .run 65535 .cw) }, by decide⟩,
   ⟨65535, { liveNode with lastTransmitted := some (.screwSpeed 65535) }, by decide⟩,
   ⟨255, { liveNode with lastTransmitted := some (.advanceRate 255) }, by decide⟩,
   ⟨6, { liveNode with lastTransmitted := some (.nextSector (some 6)) }, by decide⟩,
   ⟨{ liveNode with lastTransmitted := some (.nextSector none) }, by decide⟩,
   ⟨5, 6000, .water, { liveNode with lastTransmitted := some (.pumpOrder 5 (some (.water, 6000))) }, by decide⟩,
   ⟨5, { liveNode with lastTransmitted := some (.pumpOrder 5 none) }, by decide⟩⟩

theorem witness_screw_and_erector_samples :
    (∃ (address sequence : Byte) (p : List Byte) (s : State), HeardWell s .screw (frame 0x01 address sequence p)) ∧
    (∃ (address sequence : Byte) (p : List Byte) (s : State), HeardWell s .erector (frame 0x01 address sequence p)) ∧
    (∃ (kind address sequence : Byte) (p : List Byte) (r : Role) (s : State), kind ≠ 0x01 ∧ kind ≠ 0x02 ∧ HeardWell s r
      (frame kind address sequence p)) ∧
    (∃ (address sequence : Byte) (p : List Byte) (r : Role) (s : State), r ≠ .erector ∧ HeardWell s r (frame 0x02
      address sequence p) ∧ byteAt p 0 = 0) ∧
    (∃ (address sequence : Byte) (p : List Byte) (r : Role) (s : State), (∀ l : Fin 6, r ≠ .grout l) ∧ HeardWell s r
      (frame 0x02 address sequence p) ∧ byteAt p 0 = 1) :=
  ⟨⟨3, 10, [3, 132, 0, 0], boring, by decide⟩,
   ⟨5, 10, [3, 0], building, by decide⟩,
   ⟨3, 6, 10, [], .belt, boring, by decide⟩,
   ⟨4, 10, [0, 3, 0, 12], .thrust, building, by decide⟩,
   ⟨6, 10, [1, 0, 0, 0, 0, 0, 0, 0], .belt, boring, by decide⟩⟩

theorem witness_notices_of_node_states :
    (∃ (r : Role) (st : NodeState) (s : State), RateLaw s ∧ r ∈ essentialRoles ∧ (st = .silent ∨ st = .fault) ∧
      InStrokeOrBuild s) ∧
    (∃ (r : Role) (st : NodeState) (s : State), RateLaw s ∧ r ∈ essentialRoles ∧ (st = .silent ∨ st = .fault) ∧
      s.abu.phase = .halted) ∧
    (∃ (r : Role) (st : NodeState) (s : State), RateLaw s ∧ r ∈ essentialRoles ∧ (st = .silent ∨ st = .fault) ∧
      (¬InStrokeOrBuild s) ∧ s.abu.phase ≠ .halted) ∧
    (∃ (r : Role) (st : NodeState) (s : State), RateLaw s ∧ r ∈ essentialRoles ∧ (st = .live ∨ st = .unseen)) ∧
    (∃ (st : NodeState) (s : State), RateLaw s ∧ (st = .silent ∨ st = .fault)) :=
  ⟨⟨.thrust, .silent, boring, by decide⟩,
   ⟨.face, .fault, halted .boring .request, by decide⟩,
   ⟨.screw, .silent, ready, by decide⟩,
   ⟨.cutter, .live, boring, by decide⟩,
   ⟨.fault, boring, by decide⟩⟩

theorem witness_silence_and_face_invalid_expiries :
    (∃ (r : Role) (s : State), isRunning (nodeOf s r).silenceTimer = false) ∧
    (∃ (r : Role) (s : State), isRunning (nodeOf s r).silenceTimer = true ∧ (nodeOf s r).state = .silent) ∧
    (∃ (r : Role) (s : State), isRunning (nodeOf s r).silenceTimer = true ∧ (nodeOf s r).state ≠ .silent ∧ r ∈
      essentialRoles ∧ InStrokeOrBuild s ∧ RateLaw s) ∧
    (∃ (s : State), RateLaw s ∧ isRunning s.fbu.invalidTimer = false) ∧
    (∃ (s : State), RateLaw s ∧ isRunning s.fbu.invalidTimer = true ∧ InStrokeOrBuild s) ∧
    (∃ (s : State), RateLaw s ∧ isRunning s.fbu.invalidTimer = true ∧ s.abu.phase = .halted) ∧
    (∃ (s : State), RateLaw s ∧ isRunning s.fbu.invalidTimer = true ∧ (¬InStrokeOrBuild s) ∧ s.abu.phase ≠ .halted) :=
  ⟨⟨.belt, State.reset, by decide⟩,
   ⟨.belt, onNode .belt (fun n => { n with state := .silent }) idle, by decide⟩,
   ⟨.screw, boring, by decide⟩,
   ⟨boring, by decide⟩,
   ⟨{ boring with fbu := { Fbu.reset with invalidTimer := .running 0 5000 } }, by decide⟩,
   ⟨{ halted .boring .request with fbu := { Fbu.reset with invalidTimer := .running 0 5000 } }, by decide⟩,
   ⟨{ ready with fbu := { Fbu.reset with invalidTimer := .running 0 5000 } }, by decide⟩⟩

theorem witness_face_sample_measures_the_face :
    ∃ (address sequence : Byte) (p : List Byte) (s : State), HeardWell s .face (frame 0x01 address sequence p) :=
  ⟨1, 10, faceP 218, boring, by decide⟩

theorem witness_face_sample_classifies_and_trims :
    ∃ (address sequence : Byte) (p : List Byte) (s : State), HeardWell s .face (frame 0x01 address sequence p) ∧ RateLaw
      s ∧ s.cfb.face.screwMin ≤ s.cfb.face.screwMax ∧ s.abu.phase ≠ .building ∧ s.abu.phase ≠ .buildSuspended :=
  ⟨1, 10, faceP 218, boring, by decide⟩

theorem witness_face_sample_suspends_and_resumes_the_build :
    (∃ (address sequence : Byte) (p : List Byte) (a : ActivePlan) (s : State), HeardWell s .face (frame 0x01 address
      sequence p) ∧ RateLaw s ∧ s.rru.active = some a ∧ s.abu.phase = .building) ∧
    (∃ (address sequence : Byte) (p : List Byte) (a : ActivePlan) (s : State), HeardWell s .face (frame 0x01 address
      sequence p) ∧ RateLaw s ∧ s.rru.active = some a ∧ s.abu.phase = .buildSuspended) :=
  ⟨⟨1, 10, faceP 218, activePlan 7, building, by decide⟩,
   ⟨1, 10, faceP 218, activePlan 7, suspended, by decide⟩⟩

theorem witness_cutter_sample_judges_the_roll :
    ∃ (address sequence : Byte) (p : List Byte) (s : State), HeardWell s .cutter (frame 0x01 address sequence p) :=
  ⟨2, 10, cutterP 1 [3, 32] [255, 106], { boring with chm := { Chm.reset with state := .starting, speedSent := 251 } },
    by decide⟩

theorem witness_cutter_sample_moves_the_cutter_state :
    (∃ (address sequence : Byte) (p : List Byte) (s : State), HeardWell s .cutter (frame 0x01 address sequence p) ∧
      RateLaw s ∧ ((s.chm.state = .running ∧ flagAt p 0 = true) ∨ (s.chm.state = .starting ∧ flagAt p 0 = true ∧ 0 <
      s.chm.speedSent ∧ s.chm.speedSent * 9 ≤ natAt p 1 2 * 10)) ∧ natAt p 3 2 < s.cfb.cutter.torqueTrip) ∧
    (∃ (address sequence : Byte) (p : List Byte) (s : State), HeardWell s .cutter (frame 0x01 address sequence p) ∧
      RateLaw s ∧ ((s.chm.state = .running ∧ flagAt p 0 = true) ∨ (s.chm.state = .starting ∧ flagAt p 0 = true ∧ 0 <
      s.chm.speedSent ∧ s.chm.speedSent * 9 ≤ natAt p 1 2 * 10)) ∧ s.cfb.cutter.torqueTrip ≤ natAt p 3 2) ∧
    (∃ (address sequence : Byte) (p : List Byte) (s : State), HeardWell s .cutter (frame 0x01 address sequence p) ∧
      RateLaw s ∧ s.chm.state = .running ∧ flagAt p 0 = false) ∧
    (∃ (address sequence : Byte) (p : List Byte) (s : State), HeardWell s .cutter (frame 0x01 address sequence p) ∧
      RateLaw s ∧ s.chm.state = .stopping ∧ flagAt p 0 = false ∧ natAt p 1 2 < 5) :=
  ⟨⟨2, 10, cutterP 1 [4, 75] [255, 106], { boring with chm := { boring.chm with state := .starting } }, by decide⟩,
   ⟨2, 10, cutterP 1 [4, 76] [255, 106], boring, by decide⟩,
   ⟨2, 10, cutterP 0 [0, 0] [255, 106], boring, by decide⟩,
   ⟨2, 10, [0, 0, 4, 0, 0, 0, 0, 0, 0, 0, 0], { boring with chm := { Chm.reset with state := .stopping } }, by decide⟩⟩

theorem witness_expiries_of_the_other_timers :
    (∃ (s : State), isRunning s.clp.silenceTimer = false) ∧
    (∃ (s : State), isRunning s.clp.silenceTimer = true ∧ RateLaw s) :=
  ⟨⟨boring, by decide⟩,
   ⟨{ boring with clp := { boring.clp with silenceTimer := .running 0 2000 } }, by decide⟩⟩

theorem witness_thrust_sample_ends_moves_and_checks_the_build :
    (∃ (address sequence : Byte) (p : List Byte) (s : State), HeardWell s .thrust (frame 0x01 address sequence p) ∧
      (s.abu.phase = .boring → ∀ a ∈ s.abu.advanceRef, intAt p 0 4 ≤ a) ∧ (s.abu.phase = .building → ∀ g : Fin 7,
      (groupOf (thrustTaken s sequence p) g).state = (groupOf s g).state)) ∧
    (∃ (address sequence : Byte) (p : List Byte) (a : ActivePlan) (s : State), HeardWell s .thrust (frame 0x01 address
      sequence p) ∧ s.abu.phase = .building ∧ s.rru.active = some a ∧ RateLaw s ∧ (∃ g : Fin 7, (groupOf (thrustTaken s
      sequence p) g).state ≠ (groupOf s g).state) ∧ (¬BearsFace (thrustTaken s sequence p))) ∧
    (∃ (address sequence : Byte) (p : List Byte) (a : ActivePlan) (s : State), HeardWell s .thrust (frame 0x01 address
      sequence p) ∧ s.abu.phase = .building ∧ s.rru.active = some a ∧ RateLaw s ∧ (∃ g : Fin 7, (groupOf (thrustTaken s
      sequence p) g).state ≠ (groupOf s g).state) ∧ BearsFace (thrustTaken s sequence p) ∧ ((sectorOf s
      a.plan.keySector).state = .empty ∨ (sectorOf s a.plan.keySector).state = .offset ∨ ∃ g : Fin 7, (groupOf
      (thrustTaken s sequence p) g).state ≠ .holding)) ∧
    (∃ (address sequence : Byte) (p : List Byte) (a : ActivePlan) (r : RingRecord) (s : State), HeardWell s .thrust
      (frame 0x01 address sequence p) ∧ s.abu.phase = .building ∧ s.rru.active = some a ∧ RateLaw s ∧ (∃ g : Fin 7,
      (groupOf (thrustTaken s sequence p) g).state ≠ (groupOf s g).state) ∧ BearsFace (thrustTaken s sequence p) ∧
      ((sectorOf s a.plan.keySector).state = .placed ∨ (sectorOf s a.plan.keySector).state = .accepted) ∧ (∀ g : Fin 7,
      (groupOf (thrustTaken s sequence p) g).state = .holding) ∧ s.rru.records.getLast? = some r ∧ r.status = .opened ∧
      r.plan.ring = a.plan.ring ∧ HaltLaw s ∧ PlanLaw s ∧ NumberingLaw s ∧ OpenLaw s ∧ CompleteLaw s) :=
  ⟨⟨4, 10, thrustP [5, 220] [2, 2, 2, 2, 2, 2, 2], boring, by decide⟩,
   ⟨4, 10, thrustP [10, 40] [0, 0, 1, 0, 0, 0, 0], activePlan 7, withGroup 2 .retracting
     { building with fbu := { building.fbu with pw := some 405 } }, by decide⟩,
   ⟨4, 10, thrustP [10, 40] [0, 0, 1, 0, 0, 0, 0], activePlan 7, withGroup 2 .retracting building, by decide⟩,
   ⟨4, 10, thrustP [10, 40] [0, 0, 0, 0, 0, 0, 0], activePlan 7, openedRecord (activePlan 7), withGroup 0 .shoving
     (keyLeft .placed), by decide⟩⟩

theorem witness_thrust_sample_is_an_advance_increment :
    ∃ (address sequence : Byte) (p : List Byte) (a : ActivePlan) (b : Int) (d : Nat) (s : State), HeardWell s .thrust
      (frame 0x01 address sequence p) ∧ s.abu.phase = .boring ∧ s.rru.active = some a ∧ s.abu.advanceRef = some b ∧ 0 <
      d ∧ intAt p 0 4 = b + d :=
  ⟨4, 10, thrustP [10, 40] [2, 2, 2, 2, 2, 2, 2], activePlan 7, 1500, 1100, boring, by decide⟩

theorem witness_slices_are_cut_by_the_advance :
    (∃ (address sequence : Byte) (p : List Byte) (a : ActivePlan) (b : Int) (d c : Nat) (x : Slice) (older : List Slice)
      (s : State), HeardWell s .thrust (frame 0x01 address sequence p) ∧ s.abu.phase = .boring ∧ s.rru.active = some a ∧
      s.abu.advanceRef = some b ∧ 0 < d ∧ intAt p 0 4 = b + d ∧ b + d < s.abu.strokeTarget ∧ s.mbu.slices = older ++ [x]
      ∧ x.state = .opened ∧ x.closePoint = some c ∧ (∀ y ∈ older, y.state ≠ .opened) ∧ (s.mbu.strokeAdvance + d < c ∨
      s.mbu.openingPending = true)) ∧
    (∃ (address sequence : Byte) (p : List Byte) (a : ActivePlan) (b : Int) (d c : Nat) (x : Slice) (older : List Slice)
      (s : State), HeardWell s .thrust (frame 0x01 address sequence p) ∧ s.abu.phase = .boring ∧ s.rru.active = some a ∧
      s.abu.advanceRef = some b ∧ 0 < d ∧ intAt p 0 4 = b + d ∧ b + d < s.abu.strokeTarget ∧ s.mbu.slices = older ++ [x]
      ∧ x.state = .opened ∧ x.closePoint = some c ∧ (∀ y ∈ older, y.state ≠ .opened) ∧ c ≤ s.mbu.strokeAdvance + d ∧
      s.mbu.openingPending = false ∧ (s.mbu.slices.length < 32 ∨ (∃ y ∈ older, y.state = .final))) ∧
    (∃ (address sequence : Byte) (p : List Byte) (a : ActivePlan) (b : Int) (d c : Nat) (x : Slice) (older : List Slice)
      (s : State), HeardWell s .thrust (frame 0x01 address sequence p) ∧ s.abu.phase = .boring ∧ s.rru.active = some a ∧
      s.abu.advanceRef = some b ∧ 0 < d ∧ intAt p 0 4 = b + d ∧ b + d < s.abu.strokeTarget ∧ s.mbu.slices = older ++ [x]
      ∧ x.state = .opened ∧ x.closePoint = some c ∧ (∀ y ∈ older, y.state ≠ .opened) ∧ c ≤ s.mbu.strokeAdvance + d ∧
      s.mbu.openingPending = false ∧ 32 ≤ s.mbu.slices.length ∧ (∀ y ∈ older, y.state ≠ .final)) :=
  ⟨⟨4, 10, thrustP [6, 63] [0, 0, 0, 0, 0, 0, 0], activePlan 7, 1500, 99, 600, openSlice, [], boring, by decide⟩,
   ⟨4, 10, thrustP [6, 64] [0, 0, 0, 0, 0, 0, 0], activePlan 7, 1500, 100, 600, openSlice, slice 0 .final ::
     List.replicate 30 (slice 1 .travelling), fullQueue (slice 0 .final), by decide⟩,
   ⟨4, 10, thrustP [6, 64] [0, 0, 0, 0, 0, 0, 0], activePlan 7, 1500, 100, 600, openSlice, slice 0 .travelling ::
     List.replicate 30 (slice 1 .travelling), fullQueue (slice 0 .travelling), by decide⟩⟩

theorem witness_seat_is_judged_and_taken :
    (∃ (address sequence : Byte) (p : List Byte) (s : State), HeardWell s .erector (frame 0x02 address sequence p) ∧
      byteAt p 0 = 0 ∧ s.abu.phase ≠ .building ∧ s.abu.phase ≠ .buildSuspended) ∧
    (∃ (address sequence : Byte) (p : List Byte) (s : State), HeardWell s .erector (frame 0x02 address sequence p) ∧
      byteAt p 0 = 0 ∧ s.abu.phase = .buildSuspended) ∧
    (∃ (address sequence : Byte) (p : List Byte) (s : State), HeardWell s .erector (frame 0x02 address sequence p) ∧
      byteAt p 0 = 0 ∧ s.abu.phase = .building ∧ 6 < natAt p 1 1) ∧
    (∃ (address sequence : Byte) (p : List Byte) (k : Fin 7) (s : State), HeardWell s .erector (frame 0x02 address
      sequence p) ∧ byteAt p 0 = 0 ∧ s.abu.phase = .building ∧ natAt p 1 1 = k.val ∧ ((sectorOf s k).state = .placed ∨
      (sectorOf s k).state = .accepted ∨ s.abu.expected ≠ some k ∨ (groupOf s k).state ≠ .retracted)) ∧
    (∃ (address sequence : Byte) (p : List Byte) (k : Fin 7) (o : Vector (Fin 7) 7) (s m : State), HeardWell s .erector
      (frame 0x02 address sequence p) ∧ byteAt p 0 = 0 ∧ s.abu.phase = .building ∧ natAt p 1 1 = k.val ∧ ((sectorOf s
      k).state = .empty ∨ (sectorOf s k).state = .offset) ∧ s.abu.expected = some k ∧ (groupOf s k).state = .retracted ∧
      s.abu.buildOrder = some o ∧ RateLaw s ∧ m = seatTaken s k (natAt p 2 2) sequence ∧ BearsFace m) ∧
    (∃ (address sequence : Byte) (p : List Byte) (k : Fin 7) (o : Vector (Fin 7) 7) (s m : State), HeardWell s .erector
      (frame 0x02 address sequence p) ∧ byteAt p 0 = 0 ∧ s.abu.phase = .building ∧ natAt p 1 1 = k.val ∧ ((sectorOf s
      k).state = .empty ∨ (sectorOf s k).state = .offset) ∧ s.abu.expected = some k ∧ (groupOf s k).state = .retracted ∧
      s.abu.buildOrder = some o ∧ RateLaw s ∧ m = seatTaken s k (natAt p 2 2) sequence ∧ (¬BearsFace m)) :=
  ⟨⟨5, 10, [0, 3, 0, 12], ready, by decide⟩,
   ⟨5, 10, [0, 3, 0, 12], suspended, by decide⟩,
   ⟨5, 10, [0, 7, 0, 12], building, by decide⟩,
   ⟨5, 10, [0, 3, 0, 12], 3, building, by decide⟩,
   ⟨5, 10, [0, 3, 0, 30], 3, buildOrderOf 0, withGroup 3 .retracted building, seatTaken (withGroup 3 .retracted
     building) 3 30 10, by decide, by decide, by decide, by decide, by decide, by decide, by decide, by decide, by
     decide, rfl, by decide⟩,
   ⟨5, 10, [0, 3, 0, 31], 3, buildOrderOf 0, withGroup 3 .retracted
     { building with fbu := { building.fbu with pw := some 405 } }, seatTaken (withGroup 3 .retracted
     { building with fbu := { building.fbu with pw := some 405 } }) 3 31 10, by decide, by decide, by decide, by decide,
     by decide, by decide, by decide, by decide, by decide, rfl, by decide⟩⟩

theorem witness_belt_sample_credits_the_arriving_slice :
    (∃ (address sequence : Byte) (p : List Byte) (s : State), HeardWell s .belt (frame 0x01 address sequence p) ∧
      (arrivals s (intAt p 0 4)).getLast?.all (fun y => y.state == .final) = true) ∧
    (∃ (address sequence : Byte) (p : List Byte) (x : Slice) (s : State), HeardWell s .belt (frame 0x01 address sequence
      p) ∧ (arrivals s (intAt p 0 4)).getLast? = some x ∧ x.state ≠ .final ∧ x.measured + (intAt p 4 4).toNat ≤
      4294967295) ∧
    (∃ (t : TailMarker) (s : State), s.mbu.tail = some t ∧ s.mbu.belt < t.position) ∧
    (∃ (t : TailMarker) (s : State), ∃ x, s.mbu.tail = some t ∧ t.position ≤ s.mbu.belt ∧ x ∈ (s.mbu.slices.filter fun y
      : Slice => some y.ring == t.ring && !(y.state == .opened)).getLast?) ∧
    (∃ (t : TailMarker) (s : State), s.mbu.tail = some t ∧ t.position ≤ s.mbu.belt ∧ (∀ y ∈ s.mbu.slices, some y.ring =
      t.ring → y.state = .opened)) :=
  ⟨⟨6, 10, [0, 0, 0, 0, 0, 0, 5, 0, 0], boring, by decide⟩,
   ⟨6, 10, [0, 0, 0, 0, 0, 0, 5, 0, 0], slice 4 .travelling,
     { boring with mbu := { boring.mbu with belt := 59999, slices := [slice 4 .travelling, openSlice] } }, by decide⟩,
   ⟨{ position := 60000, ring := some 7 },
     { strokeEnd with mbu := { strokeEnd.mbu with belt := 59999, tail := some { position := 60000, ring := some 7 }, slices := [] } },
     by decide⟩,
   ⟨{ position := 60000, ring := some 7 },
     { strokeEnd with mbu := { strokeEnd.mbu with belt := 60000, tail := some { position := 60000, ring := some 7 }, slices := [slice 4 .final, slice 5 .arriving] } },
     slice 5 .arriving, by decide⟩,
   ⟨{ position := 60000, ring := some 7 },
     { strokeEnd with mbu := { strokeEnd.mbu with belt := 60000, tail := some { position := 60000, ring := some 7 }, slices := [] } },
     by decide⟩⟩

theorem witness_slice_is_judged_and_posted :
    (∃ (x : Slice) (mt : Nat) (v : Verdict) (s : State), x ∈ s.mbu.slices ∧ x.state ≠ .final ∧ x.state ≠ .opened ∧
      x.theoretical = some mt ∧ (s.mbu.slices.map fun y => (y.ring, y.index)).Nodup ∧ (s.rru.records.map fun r =>
      r.plan.ring).Nodup ∧ s.mbu.openingPending = false ∧ v = verdictOf s.cfb.muck x mt ∧ BiasLaw s ∧ s.mbu.overRun ≤
      255 ∧ s.mbu.okRun ≤ 255 ∧ s.mbu.overdig ≠ (finalizeSlice x s).mbu.overdig) ∧
    (∃ (x : Slice) (mt : Nat) (v : Verdict) (s : State), x ∈ s.mbu.slices ∧ x.state ≠ .final ∧ x.state ≠ .opened ∧
      x.theoretical = some mt ∧ (s.mbu.slices.map fun y => (y.ring, y.index)).Nodup ∧ (s.rru.records.map fun r =>
      r.plan.ring).Nodup ∧ s.mbu.openingPending = false ∧ v = verdictOf s.cfb.muck x mt ∧ BiasLaw s ∧ s.mbu.overRun ≤
      255 ∧ s.mbu.okRun ≤ 255 ∧ s.mbu.overdig = (finalizeSlice x s).mbu.overdig) ∧
    (∃ (x : Slice) (mt : Nat) (v : Verdict) (s : State), x ∈ s.mbu.slices ∧ x.state ≠ .final ∧ x.state ≠ .opened ∧
      x.theoretical = some mt ∧ (s.mbu.slices.map fun y => (y.ring, y.index)).Nodup ∧ (s.rru.records.map fun r =>
      r.plan.ring).Nodup ∧ s.mbu.openingPending = false ∧ v = verdictOf s.cfb.muck x mt ∧ BiasLaw s ∧ s.mbu.overRun ≤
      255 ∧ s.mbu.okRun ≤ 255 ∧ v = .under) ∧
    (∃ (x : Slice) (mt : Nat) (v : Verdict) (s : State), ∃ r, x ∈ s.mbu.slices ∧ x.state ≠ .final ∧ x.state ≠ .opened ∧
      x.theoretical = some mt ∧ (s.mbu.slices.map fun y => (y.ring, y.index)).Nodup ∧ (s.rru.records.map fun r =>
      r.plan.ring).Nodup ∧ s.mbu.openingPending = false ∧ v = verdictOf s.cfb.muck x mt ∧ BiasLaw s ∧ s.mbu.overRun ≤
      255 ∧ s.mbu.okRun ≤ 255 ∧ r ∈ s.rru.records ∧ r.plan.ring ≠ x.ring) ∧
    (∃ (x : Slice) (mt : Nat) (v : Verdict) (s : State), ∃ r, x ∈ s.mbu.slices ∧ x.state ≠ .final ∧ x.state ≠ .opened ∧
      x.theoretical = some mt ∧ (s.mbu.slices.map fun y => (y.ring, y.index)).Nodup ∧ (s.rru.records.map fun r =>
      r.plan.ring).Nodup ∧ s.mbu.openingPending = false ∧ v = verdictOf s.cfb.muck x mt ∧ BiasLaw s ∧ s.mbu.overRun ≤
      255 ∧ s.mbu.okRun ≤ 255 ∧ r ∈ s.rru.records ∧ r.plan.ring = x.ring) ∧
    (∃ (x : Slice) (a : ActivePlan) (s m : State), x ∈ s.mbu.slices ∧ x.state ≠ .final ∧ x.state ≠ .opened ∧
      s.mbu.openingPending = true ∧ s.mbu.slices.length ≤ 32 ∧ s.rru.active = some a ∧ m = finalizeSlice x
      { s with mbu := { s.mbu with openingPending := false } } ∧ s.mbu.nextIndex < 255) :=
  ⟨⟨arrived 8000, 7103, .over, judging 8000 2, by decide⟩,
   ⟨arrived 7103, 7103, .ok, judging 7103 2, by decide⟩,
   ⟨arrived 6000, 7103, .under, judging 6000 2, by decide⟩,
   ⟨arrived 7103, 7103, .ok, judging 7103 2, openedRecord (activePlan 8), by decide⟩,
   ⟨arrived 7103, 7103, .ok, judging 7103 2, openedRecord (activePlan 7), by decide⟩,
   ⟨slice 0 .travelling, activePlan 7, openingWaits, finalizeSlice (slice 0 .travelling)
     { openingWaits with mbu := { openingWaits.mbu with openingPending := false } }, by decide, by decide, by decide, by
     decide, by decide, by decide, rfl, by decide⟩⟩

theorem witness_grout_sample_judges_the_pressure :
    (∃ (address sequence : Byte) (p : List Byte) (l : Fin 6) (s m : State), HeardWell s (.grout l) (frame 0x01 address
      sequence p) ∧ m = withLine (heardOnly s (.grout l) sequence) l
      { lineOf s l with pressure := some (natAt p 0 2), pMaxInForce := s.cfb.grout.pMax, pResumeInForce := s.cfb.grout.pResume }
      ∧ s.cfb.grout.pResume < s.cfb.grout.pMax ∧ s.cfb.grout.pMax < s.cfb.grout.pBurst ∧ (lineOf s l).state ≠ .blocked ∧
      s.cfb.grout.pBurst ≤ natAt p 0 2) ∧
    (∃ (address sequence : Byte) (p : List Byte) (l : Fin 6) (s m : State), HeardWell s (.grout l) (frame 0x01 address
      sequence p) ∧ m = withLine (heardOnly s (.grout l) sequence) l
      { lineOf s l with pressure := some (natAt p 0 2), pMaxInForce := s.cfb.grout.pMax, pResumeInForce := s.cfb.grout.pResume }
      ∧ s.cfb.grout.pResume < s.cfb.grout.pMax ∧ s.cfb.grout.pMax < s.cfb.grout.pBurst ∧ (lineOf s l).state = .running ∧
      s.cfb.grout.pMax < natAt p 0 2 ∧ natAt p 0 2 < s.cfb.grout.pBurst) ∧
    (∃ (address sequence : Byte) (p : List Byte) (l : Fin 6) (s m : State), HeardWell s (.grout l) (frame 0x01 address
      sequence p) ∧ m = withLine (heardOnly s (.grout l) sequence) l
      { lineOf s l with pressure := some (natAt p 0 2), pMaxInForce := s.cfb.grout.pMax, pResumeInForce := s.cfb.grout.pResume }
      ∧ s.cfb.grout.pResume < s.cfb.grout.pMax ∧ s.cfb.grout.pMax < s.cfb.grout.pBurst ∧ (lineOf s l).state = .held ∧
      natAt p 0 2 < s.cfb.grout.pResume) ∧
    (∃ (address sequence : Byte) (p : List Byte) (l : Fin 6) (s m : State), HeardWell s (.grout l) (frame 0x01 address
      sequence p) ∧ m = withLine (heardOnly s (.grout l) sequence) l
      { lineOf s l with pressure := some (natAt p 0 2), pMaxInForce := s.cfb.grout.pMax, pResumeInForce := s.cfb.grout.pResume }
      ∧ s.cfb.grout.pResume < s.cfb.grout.pMax ∧ s.cfb.grout.pMax < s.cfb.grout.pBurst ∧ ((lineOf s l).state = .blocked
      ∨ natAt p 0 2 < s.cfb.grout.pBurst) ∧ ((lineOf s l).state ≠ .running ∨ natAt p 0 2 ≤ s.cfb.grout.pMax) ∧ ((lineOf
      s l).state ≠ .held ∨ s.cfb.grout.pResume ≤ natAt p 0 2)) :=
  ⟨⟨7, 10, [2, 88] ++ [0, 0, 0], 0, withState 0 .running boring, withLine (heardOnly (withState 0 .running boring)
     (.grout 0) 10) 0
     { lineOf (withState 0 .running boring) 0 with pressure := some (natAt ([2, 88] ++ [0, 0, 0]) 0 2), pMaxInForce := settings.grout.pMax, pResumeInForce := settings.grout.pResume },
     by decide, rfl, by decide⟩,
   ⟨7, 10, [1, 195] ++ [0, 0, 0], 0, withState 0 .running boring, withLine (heardOnly (withState 0 .running boring)
     (.grout 0) 10) 0
     { lineOf (withState 0 .running boring) 0 with pressure := some (natAt ([1, 195] ++ [0, 0, 0]) 0 2), pMaxInForce := settings.grout.pMax, pResumeInForce := settings.grout.pResume },
     by decide, rfl, by decide⟩,
   ⟨7, 10, [1, 123] ++ [0, 0, 0], 0, withState 0 .held boring, withLine (heardOnly (withState 0 .held boring) (.grout 0)
     10) 0
     { lineOf (withState 0 .held boring) 0 with pressure := some (natAt ([1, 123] ++ [0, 0, 0]) 0 2), pMaxInForce := settings.grout.pMax, pResumeInForce := settings.grout.pResume },
     by decide, rfl, by decide⟩,
   ⟨7, 10, [1, 194] ++ [0, 0, 0], 0, withState 0 .running boring, withLine (heardOnly (withState 0 .running boring)
     (.grout 0) 10) 0
     { lineOf (withState 0 .running boring) 0 with pressure := some (natAt ([1, 194] ++ [0, 0, 0]) 0 2), pMaxInForce := settings.grout.pMax, pResumeInForce := settings.grout.pResume },
     by decide, rfl, by decide⟩⟩

theorem witness_done_report_ends_the_stroke :
    (∃ (address sequence : Byte) (p : List Byte) (l : Fin 6) (s : State), HeardWell s (.grout l) (frame 0x02 address
      sequence p) ∧ byteAt p 0 = 1 ∧ (lineOf s l).stroke = none) ∧
    (∃ (address sequence : Byte) (p : List Byte) (l : Fin 6) (k : Stroke) (s : State), HeardWell s (.grout l) (frame
      0x02 address sequence p) ∧ byteAt p 0 = 1 ∧ (lineOf s l).stroke = some k ∧ (k.sent = false ∨ (byteAt p 1).toNat ≠
      (if k.kind = .grout then 0 else 1))) ∧
    (∃ (address sequence : Byte) (p : List Byte) (l : Fin 6) (k : Stroke) (t : Stamp) (d : Nat) (s : State), HeardWell s
      (.grout l) (frame 0x02 address sequence p) ∧ byteAt p 0 = 1 ∧ (lineOf s l).stroke = some k ∧ k.sent = true ∧
      (byteAt p 1).toNat = (if k.kind = .grout then 0 else 1) ∧ (lineOf s l).strokeTimer = .running t d ∧ d < natAt p 2
      4) ∧
    (∃ (address sequence : Byte) (p : List Byte) (l : Fin 6) (k : Stroke) (t : Stamp) (d ml : Nat) (s m : State),
      HeardWell s (.grout l) (frame 0x02 address sequence p) ∧ byteAt p 0 = 1 ∧ (lineOf s l).stroke = some k ∧ k.sent =
      true ∧ (byteAt p 1).toNat = (if k.kind = .grout then 0 else 1) ∧ (lineOf s l).strokeTimer = .running t d ∧ natAt p
      2 4 ≤ d ∧ ml = k.volume * min 1000 (natAt p 6 2) / 1000 ∧ m = withLine (heardOnly s (.grout l) sequence) l
      { lineOf s l with stroke := none, strokeTimer := .stopped } ∧ k.kind = .grout ∧ k.ring = none) ∧
    (∃ (address sequence : Byte) (p : List Byte) (l : Fin 6) (k : Stroke) (t : Stamp) (d ml : Nat) (s m : State),
      HeardWell s (.grout l) (frame 0x02 address sequence p) ∧ byteAt p 0 = 1 ∧ (lineOf s l).stroke = some k ∧ k.sent =
      true ∧ (byteAt p 1).toNat = (if k.kind = .grout then 0 else 1) ∧ (lineOf s l).strokeTimer = .running t d ∧ natAt p
      2 4 ≤ d ∧ ml = k.volume * min 1000 (natAt p 6 2) / 1000 ∧ m = withLine (heardOnly s (.grout l) sequence) l
      { lineOf s l with stroke := none, strokeTimer := .stopped } ∧ k.kind = .grout ∧ k.ring.isSome = true ∧ k.ring =
      s.gru.groutRing) ∧
    (∃ (address sequence : Byte) (p : List Byte) (l : Fin 6) (k : Stroke) (t : Stamp) (d ml : Nat) (s m : State),
      HeardWell s (.grout l) (frame 0x02 address sequence p) ∧ byteAt p 0 = 1 ∧ (lineOf s l).stroke = some k ∧ k.sent =
      true ∧ (byteAt p 1).toNat = (if k.kind = .grout then 0 else 1) ∧ (lineOf s l).strokeTimer = .running t d ∧ natAt p
      2 4 ≤ d ∧ ml = k.volume * min 1000 (natAt p 6 2) / 1000 ∧ m = withLine (heardOnly s (.grout l) sequence) l
      { lineOf s l with stroke := none, strokeTimer := .stopped } ∧ k.kind = .grout ∧ (∃ e ∈ s.gru.finishing, k.ring =
      some e.ring) ∧ k.ring ≠ s.gru.groutRing) ∧
    (∃ (address sequence : Byte) (p : List Byte) (l : Fin 6) (k : Stroke) (t : Stamp) (d ml : Nat) (s m c : State),
      HeardWell s (.grout l) (frame 0x02 address sequence p) ∧ byteAt p 0 = 1 ∧ (lineOf s l).stroke = some k ∧ k.sent =
      true ∧ (byteAt p 1).toNat = (if k.kind = .grout then 0 else 1) ∧ (lineOf s l).strokeTimer = .running t d ∧ natAt p
      2 4 ≤ d ∧ ml = k.volume * min 1000 (natAt p 6 2) / 1000 ∧ m = withLine (heardOnly s (.grout l) sequence) l
      { lineOf s l with stroke := none, strokeTimer := .stopped } ∧ k.kind = .water ∧ c = (if ∃ e ∈ s.gru.finishing,
      k.ring = some e.ring then endFinishingStroke (k.ring.getD 0) 0 m else m) ∧ ((lineOf s l).state ≠ .flushing ∨ 0 <
      (lineOf s l).flush)) ∧
    (∃ (address sequence : Byte) (p : List Byte) (l : Fin 6) (k : Stroke) (t : Stamp) (d ml : Nat) (s m c : State),
      HeardWell s (.grout l) (frame 0x02 address sequence p) ∧ byteAt p 0 = 1 ∧ (lineOf s l).stroke = some k ∧ k.sent =
      true ∧ (byteAt p 1).toNat = (if k.kind = .grout then 0 else 1) ∧ (lineOf s l).strokeTimer = .running t d ∧ natAt p
      2 4 ≤ d ∧ ml = k.volume * min 1000 (natAt p 6 2) / 1000 ∧ m = withLine (heardOnly s (.grout l) sequence) l
      { lineOf s l with stroke := none, strokeTimer := .stopped } ∧ k.kind = .water ∧ c = (if ∃ e ∈ s.gru.finishing,
      k.ring = some e.ring then endFinishingStroke (k.ring.getD 0) 0 m else m) ∧ (lineOf s l).state = .flushing ∧
      (lineOf s l).flush = 0) :=
  ⟨⟨7, 10, [1, 0] ++ [0, 0, 78, 32] ++ [3, 232], 0, boring, by decide⟩,
   ⟨7, 10, [1, 1] ++ [0, 0, 78, 32] ++ [3, 232], 0, stroke .grout (some 7), withStroke 0 .grout (some 7) boring, by
     decide⟩,
   ⟨7, 10, [1, 0] ++ [0, 0, 78, 33] ++ [3, 232], 0, stroke .grout (some 7), 0, 20000, withStroke 0 .grout (some 7)
     boring, by decide⟩,
   ⟨7, 10, [1, 0] ++ [0, 0, 78, 32] ++ [3, 232], 0, stroke .grout none, 0, 20000, 6000, withStroke 0 .grout none boring,
     withLine (heardOnly (withStroke 0 .grout none boring) (.grout 0) 10) 0
     { lineOf (withStroke 0 .grout none boring) 0 with stroke := none, strokeTimer := .stopped }, by decide, by decide,
     by decide, by decide, by decide, by decide, by decide, by decide, rfl, by decide⟩,
   ⟨7, 10, [1, 0] ++ [0, 0, 78, 32] ++ [3, 232], 0, stroke .grout (some 7), 0, 20000, 6000, withStroke 0 .grout (some 7)
     boring, withLine (heardOnly (withStroke 0 .grout (some 7) boring) (.grout 0) 10) 0
     { lineOf (withStroke 0 .grout (some 7) boring) 0 with stroke := none, strokeTimer := .stopped }, by decide, by
     decide, by decide, by decide, by decide, by decide, by decide, by decide, rfl, by decide⟩,
   ⟨7, 10, [1, 0] ++ [0, 0, 78, 32] ++ [3, 232], 0, stroke .grout (some 6), 0, 20000, 6000, withStroke 0 .grout (some 6)
     finishing6, withLine (heardOnly (withStroke 0 .grout (some 6) finishing6) (.grout 0) 10) 0
     { lineOf (withStroke 0 .grout (some 6) finishing6) 0 with stroke := none, strokeTimer := .stopped }, by decide, by
     decide, by decide, by decide, by decide, by decide, by decide, by decide, rfl, by decide⟩,
   ⟨7, 10, [1, 1] ++ [0, 0, 78, 32] ++ [3, 232], 0, stroke .water (some 6), 0, 20000, 6000, withStroke 0 .water (some 6)
     (withState 0 .paused finishing6), withLine (heardOnly (withStroke 0 .water (some 6) (withState 0 .paused
     finishing6)) (.grout 0) 10) 0
     { lineOf (withStroke 0 .water (some 6) (withState 0 .paused finishing6)) 0 with stroke := none, strokeTimer := .stopped },
     endFinishingStroke 6 0 (withLine (heardOnly (withStroke 0 .water (some 6) (withState 0 .paused finishing6)) (.grout
     0) 10) 0
     { lineOf (withStroke 0 .water (some 6) (withState 0 .paused finishing6)) 0 with stroke := none, strokeTimer := .stopped }),
     by decide, by decide, by decide, by decide, by decide, by decide, by decide, by decide, rfl, by decide, rfl, by
     decide⟩,
   ⟨7, 10, [1, 1] ++ [0, 0, 78, 32] ++ [3, 232], 0, stroke .water (some 7), 0, 20000, 6000, withStroke 0 .water (some 7)
     (withState 0 .flushing boring), withLine (heardOnly (withStroke 0 .water (some 7) (withState 0 .flushing boring))
     (.grout 0) 10) 0
     { lineOf (withStroke 0 .water (some 7) (withState 0 .flushing boring)) 0 with stroke := none, strokeTimer := .stopped },
     withLine (heardOnly (withStroke 0 .water (some 7) (withState 0 .flushing boring)) (.grout 0) 10) 0
     { lineOf (withStroke 0 .water (some 7) (withState 0 .flushing boring)) 0 with stroke := none, strokeTimer := .stopped },
     by decide, by decide, by decide, by decide, by decide, by decide, by decide, by decide, rfl, by decide, rfl, by
     decide⟩⟩

theorem witness_finishing_rings_end_with_their_last_stroke :
    (∃ (e : Finishing) (s : State), e ∈ s.gru.finishing ∧ (s.gru.finishing.map Finishing.ring).Nodup ∧
      (s.rru.records.map fun x => x.plan.ring).Nodup ∧ 1 < e.inFlight) ∧
    (∃ (e : Finishing) (r : RingRecord) (s : State), e ∈ s.gru.finishing ∧ (s.gru.finishing.map Finishing.ring).Nodup ∧
      (s.rru.records.map fun x => x.plan.ring).Nodup ∧ e.inFlight ≤ 1 ∧ r ∈ s.rru.records ∧ r.plan.ring = e.ring ∧
      r.groutFinal = false ∧ r.status = .closed ∧ r.buildFinal = true ∧ r.muckFinal = true) :=
  ⟨⟨{ ring := 6, demand := 0, delivered := 0, inFlight := 2 },
     { finishing6 with gru := { finishing6.gru with finishing := [{ ring := 6, demand := 0, delivered := 0, inFlight := 2 }] } },
     by decide⟩,
   ⟨{ ring := 6, demand := 0, delivered := 0, inFlight := 1 },
     { openedRecord (activePlan 6) with status := .closed, buildFinal := true, muckFinal := true }, accountsOpen, by
     decide⟩⟩

theorem witness_blocked_line_and_grout_entry :
    (∃ (l : Fin 6) (s : State) (k : Fin 6), (allLines.map fun k => s.cfb.grout.baseShares[k]).sum = 1000 ∧ k ≠ l) ∧
    (∃ (s : State) (k : Fin 6), (allLines.map fun k => s.cfb.grout.baseShares[k]).sum = 1000 ∧ (lineOf s k).state =
      .blocked) ∧
    (∃ (l : Fin 6) (s : State), (allLines.map fun k => s.cfb.grout.baseShares[k]).sum = 1000 ∧ (∃ k : Fin 6, k ≠ l ∧
      (lineOf s k).state ≠ .blocked)) ∧
    (∃ (l : Fin 6) (s : State), (allLines.map fun k => s.cfb.grout.baseShares[k]).sum = 1000 ∧ (∀ k : Fin 6, k ≠ l →
      (lineOf s k).state ≠ .blocked)) ∧
    (∃ (s : State), RateLaw s ∧ s.cfb.grout.lagWarn < s.cfb.grout.lagStop ∧ (∀ l : Fin 6, (lineOf s l).state = .blocked)
      ∧ s.gru.haltPosted = false) ∧
    (∃ (s : State), RateLaw s ∧ s.cfb.grout.lagWarn < s.cfb.grout.lagStop ∧ (∀ l : Fin 6, (lineOf s l).state = .blocked)
      ∧ s.gru.haltPosted = true) ∧
    (∃ (s : State), RateLaw s ∧ s.cfb.grout.lagWarn < s.cfb.grout.lagStop ∧ (∃ l : Fin 6, (lineOf s l).state ≠
      .blocked)) :=
  ⟨⟨0, boring, 1, by decide⟩,
   ⟨withState 5 .blocked boring, 5, by decide⟩,
   ⟨0, boring, by decide⟩,
   ⟨0, boring, by decide⟩,
   ⟨{ boring with gru := { boring.gru with haltPosted := false, lines := Vector.replicate 6 { Line.reset settings.grout 0 with state := .blocked } } },
     by decide⟩,
   ⟨{ boring with gru := { boring.gru with haltPosted := true, lines := Vector.replicate 6 { Line.reset settings.grout 0 with state := .blocked } } },
     by decide⟩,
   ⟨boring, by decide⟩⟩

theorem witness_every_step_leaves_the_transmitters_settled :
    ∃ (s t : State), Settled s ∧ step s = .next t :=
  ⟨boring, tick boring, by decide, rfl⟩

theorem witness_every_step_keeps_the_queue_bounds :
    (∃ (s t : State), QueueBounds s ∧ step s = .next t) ∧
    (∃ (s t : State), OneRequest s ∧ step s = .next t) :=
  ⟨⟨boring, tick boring, by decide, rfl⟩,
   ⟨boring, tick boring, by decide, rfl⟩⟩

theorem witness_every_step_keeps_the_rate_law :
    ∃ (s t : State), RateLaw s ∧ step s = .next t :=
  ⟨boring, tick boring, by decide, rfl⟩

theorem witness_every_step_keeps_the_cycle_laws :
    ∃ (s t : State), HaltLaw s ∧ PlanLaw s ∧ NumberingLaw s ∧ OpenLaw s ∧ CompleteLaw s ∧ step s = .next t :=
  ⟨boring, tick boring, by decide, by decide, by decide, by decide, by decide, rfl⟩

theorem witness_every_step_keeps_the_accounts :
    ∃ (s t : State), HaltLaw s ∧ PlanLaw s ∧ NumberingLaw s ∧ OpenLaw s ∧ CompleteLaw s ∧ AccountLaw s ∧ FinishingLaw s
      ∧ step s = .next t :=
  ⟨boring, tick boring, by decide, by decide, by decide, by decide, by decide, by decide, by decide, rfl⟩

theorem witness_every_step_keeps_the_withdrawal_laws :
    ∃ (s t : State), KeysOnce s ∧ OrderLaw s ∧ HaltLaw s ∧ SeatingLaw s ∧ WithdrawalLaw s ∧ step s = .next t ∧ LockLaw s :=
  ⟨ordered, tick ordered, by decide, by decide, by decide, by decide, by decide, rfl, by decide⟩

theorem witness_retract_leaves_and_locks_open_by_rule :
    (∃ (s t : State) (g : Fin 7) (f : MachineFrame), step s = .next t ∧ KeysOnce s ∧ OrderLaw s ∧ HaltLaw s ∧ SeatingLaw
      s ∧ WithdrawalLaw s ∧ t.mlp.tx = some f ∧ s.mlp.tx ≠ some f ∧ f.payload = commandPayload (.groupOrder g .retract
      0)) ∧
    (∃ (s t : State) (g : Fin 7), step s = .next t ∧ (groupOf s g).lock = true) :=
  ⟨⟨{ ordered with pending := [.machineTxDone] }, settle (machineFrameEnds ordered), 3,
     { kind := 0x10, address := 4, sequence := 0, payload := commandPayload (.groupOrder 3 .retract 0) }, rfl, by
     decide⟩,
   ⟨onGroup 3 (fun x => { x with lock := true }) ready, tick (onGroup 3 (fun x => { x with lock := true }) ready), 3,
     rfl, by decide⟩⟩

theorem witness_every_step_keeps_the_share_law :
    ∃ (s t : State), ShareLaw s ∧ s.cfb.grout.baseShares.toList.sum = 1000 ∧ step s = .next t :=
  ⟨boring, tick boring, by decide, by decide, rfl⟩

theorem witness_every_step_keeps_accumulators_and_strokes :
    (∃ (s t : State), step s = .next t ∧ AccumulatorLaw s) ∧
    (∃ (s t : State), step s = .next t ∧ KeysOnce s ∧ StrokeLaw s) :=
  ⟨⟨boring, tick boring, rfl, by decide⟩,
   ⟨boring, tick boring, rfl, by decide⟩⟩

theorem witness_every_step_keeps_slices_bias_and_settings :
    (∃ (s t : State), step s = .next t ∧ SliceLaw s) ∧
    (∃ (s t : State), step s = .next t ∧ BiasLaw s) ∧
    (∃ (s t : State), step s = .next t ∧ SettingsLaw s) :=
  ⟨⟨boring, tick boring, rfl, by decide⟩,
   ⟨boring, tick boring, rfl, by decide⟩,
   ⟨boring, tick boring, rfl, by decide⟩⟩

/-- START meets a full slice queue without a FINAL slice, and one with a FINAL slice. -/
theorem witness_start_meets_a_full_slice_queue :
    (MayStart (fullOf .travelling) ∧ ¬SliceRoom (fullOf .travelling)) ∧
      (MayStart (fullOf .final) ∧ SliceRoom (fullOf .final) ∧ (fullOf .final).mbu.slices.length = 32) := by decide

/-- SET meets every case of what it stores: an unset diameter, the steps, each pair, a range alone. -/
theorem witness_set_meets_every_case :
    [(0, 0), (0, 1), (1, 5), (0, 2), (0, 3), (7, 1), (3, 5), (3, 11), (3, 12), (4, 2), (4, 3), (5, 3), (5, 2), (5, 4), (5, 7),
        (5, 8), (0, 4)].map (fun x => settingItem x.1 x.2) =
      [.dc, .ds, .address .belt, .ringWidth, .clearance, .statusPeriod, .leapThreshold, .screwMin, .screwMax, .torqueDerate,
        .torqueTrip, .pResume, .pMax, .pBurst, .lagWarn, .lagStop, .cellHeight 0].map some ∧
      idle.abu.phase = .idle ∧ RateLaw idle := by decide

/-! ## What is not well formed is refused, check by check -/

theorem test_no_bytes_is_ill_formed : wellFormed (.cabinFrameReceived []) = false := by decide
theorem test_no_bytes_after_gap_is_ill_formed : wellFormed (.machineRxGap []) = false := by decide
theorem test_known_kind_is_not_unknown : wellFormed (.unknownKind 0x24 0 []) = false := by decide
set_option maxRecDepth 4000 in
theorem test_long_request_is_ill_formed : wellFormed (.ping 0 (List.replicate 249 0)) = false := by decide
set_option maxRecDepth 4000 in
theorem test_long_sample_is_ill_formed : wellFormed (.faceSample 1 0 (List.replicate 249 0)) = false := by decide
theorem test_done_byte_is_no_seat_report : wellFormed (.seatReport 5 0 [1, 3, 0, 12]) = false := by decide
theorem test_seat_byte_is_no_done_report : wellFormed (.doneReport 7 0 [0, 0, 0, 0]) = false := by decide
theorem test_sample_is_no_other_frame : wellFormed (.nodeOtherFrame 1 1 0 []) = false := by decide
theorem test_whole_commands_are_well_formed :
    [Instr.lineReset, .hold 5 [], .unknownKind 0x25 0 [], .seatReport 5 0 [0, 3, 0, 12], .nodeOtherFrame 3 1 0 []].all
      wellFormed = true := by decide

/-! ## The manual's worked figures -/

/-- R159: the four rows of the table. -/
theorem test_derived_values :
    [(6600, 6300), (3000, 2400), (12000, 11400), (3000, 2999)].map
      (fun d => (faceArea { settings.geometry with dc := d.1, ds := d.2 }, voidRate { settings.geometry with dc := d.1, ds := d.2 })) =
    [(34211944, 3039), (7068583, 2545), (113097335, 11027), (7068583, 5)] := by decide

/-- 4.9, required force: the rows at 100, 218, 270, 360 and 405 kPa. -/
theorem test_required_force : [100, 218, 270, 360, 405].map (requiredForce idle) = [4448, 9696, 12009, 16012, 18013] := by
  decide

/-- R63: the build order of key sector 0, as 11.1 gives it. -/
theorem test_build_order : (buildOrderOf 0).toList = [3, 4, 2, 5, 1, 6, 0] := by decide

/-- 3.8, the derate curve. -/
theorem test_derate_curve : [851, 950, 1050, 1094, 1095].map (deratedRate settings.cutter 45) = [44, 27, 9, 1, 0] := by decide

/-- 3.8, direction at successive starts. -/
theorem test_directions :
    [chooseDirection 30 .auto (some 45) .cw, chooseDirection 30 .auto (some 12) .cw, chooseDirection 30 .auto (some (-30)) .cw,
      chooseDirection 30 .auto (some (-29)) .ccw, chooseDirection 30 .cw (some (-80)) .ccw] =
    [.cw, .cw, .ccw, .ccw, .cw] := by decide

/-- 5.12, the lag curve. -/
theorem test_lag_curve :
    [-3000, 150000, 150001, 250000, 394444, 394445, 400000].map (lagEntry settings.grout 45) =
    [(.noLimit, .none), (.noLimit, .none), (.rate 44, .lag), (.rate 27, .lag), (.rate 1, .lag), (.rate 0, .lag),
      (.rate 0, .stop)] := by decide

/-- 5.12, shares as lines block and clear. -/
theorem test_shares :
    [[1], [1, 2], [2], [0, 5], [0, 1, 2, 3, 5]].map
      (fun b : List (Fin 6) => allLines.map (effectiveShare settings.grout.baseShares (fun l => b.contains l))) =
    [[310, 0, 190, 100, 180, 220], [360, 0, 0, 240, 180, 220], [220, 230, 0, 150, 180, 220], [0, 400, 100, 100, 400, 0],
      [0, 0, 0, 0, 1000, 0]] := by decide

/-- R98: six times 250. -/
theorem test_written_shares :
    storedShares #v[250, 250, 250, 250, 250, 250] = #v[167, 167, 167, 167, 166, 166] := by decide

/-- Chapter 2, corrected values: the rows with γ 25 and 12. -/
theorem test_axis_correction :
    [cellCorrected 12 3000 182, cellCorrected 25 1500 250, cellCorrected 25 (-1500) 250, cellCorrected 25 (-3000) 3,
      cellCorrected 25 4000 999] = [218, 288, 212, 0, 1099] := by decide

set_option maxRecDepth 8000 in
/-- The check value of the CRC that R142 describes, over the nine digits (general knowledge, not from the manual). -/
theorem test_crc_check_value :
    crc16 [0x31, 0x32, 0x33, 0x34, 0x35, 0x36, 0x37, 0x38, 0x39] = 0x29B1#16 := by decide

/-- R45, R57, R102, 10.2: the written examples of clamping at the write, and a ring width of 649. -/
theorem test_clamped_settings :
    storedValue { settings with face := { settings.face with lowLimit := 40 } } .leapThreshold 45 = 40 ∧
      storedValue settings .torqueTrip 800 = 851 ∧ storedValue settings .pMax 620 = 599 ∧
      storedValue settings .ringWidth 649 = 600 := by decide

/-! ## Single commands -/

/-- The state that a command leads to. -/
def run (c : Instr) (s : State) : State :=
  match exec c s with
  | .next t => t
  | .fault _ => s
  | .refused _ => s

/-- R15, R8: HOLD in BORING. -/
theorem test_hold : (run (.hold 5 []) boring).abu.held = some .cabin ∧ (run (.hold 5 []) boring).abu.rateSent = 0 := by decide

set_option maxRecDepth 8000 in
/-- R5: the stroke target is the start plus ring width plus clearance. -/
theorem test_start :
    (run (.start 5 []) ready).abu.phase = .boring ∧ (run (.start 5 []) ready).abu.strokeTarget = 2600 := by decide

set_option maxRecDepth 8000 in
/-- 1.6: a sample at the target ends the stroke. -/
theorem test_stroke_ends :
    (run (.thrustSample 4 10 (thrustP [10, 40] [2, 2, 2, 2, 2, 2, 2])) boring).abu.phase = .strokeEnd := by decide

set_option maxRecDepth 8000 in
/-- 5.12: one increment of 25 mm with fill 1,150 is owed at share 220, less the stroke issued at once. -/
theorem test_increment :
    (lineOf (run (.thrustSample 4 10 (thrustP [5, 245] [2, 2, 2, 2, 2, 2, 2]))
      { withState 0 .running boring with
        rru := { boring.rru with active := some { plan := { plan 7 with fill := 1150 }, repeated := false } } }) 0).acc =
    13221675000 := by decide

/-- 3.8: a torque of 950 under a plan rate of 45. -/
theorem test_derate :
    (run (.cutterSample 2 10 (cutterP 1 [3, 182] [0, 0]))
      { boring with abu := { boring.abu with caps := { boring.abu.caps with plan := 45 }, effective := 45, rateSent := 45 } }
      ).abu.rateSent = 27 := by decide

/-- R70: a gap of 12 is PLACED and locked, one of 45 is OFFSET. -/
theorem test_seat :
    (sectorOf (run (.seatReport 5 10 [0, 3, 0, 12]) (withGroup 3 .retracted building)) 3).state = .placed ∧
      (groupOf (run (.seatReport 5 10 [0, 3, 0, 12]) (withGroup 3 .retracted building)) 3).lock = true ∧
      (sectorOf (run (.seatReport 5 10 [0, 3, 0, 45]) (withGroup 3 .retracted building)) 3).state = .offset := by decide

/-- R106: the mass goes to the newest slice whose spoil has begun to arrive. -/
theorem test_belt :
    (run (.beltSample 6 10 [0, 0, 0, 1, 0, 0, 4, 176, 0])
      { boring with mbu := { boring.mbu with belt := 59999, slices := [slice 4 .travelling, { openSlice with length := 50 }] } }
      ).mbu.slices.map Slice.measured = [0, 1200] := by decide

set_option maxRecDepth 8000 in
/-- R102: a line keeps the old P_max until its next GROUT sample. -/
theorem test_pressure_setting_waits_for_the_sample :
    (lineOf (run (.set 5 [5, 2, 0, 0, 1, 244]) idle) 0).pMaxInForce = 450 ∧
      (lineOf (run (.groutSample 7 10 [0, 9, 0, 0, 0]) (run (.set 5 [5, 2, 0, 0, 1, 244]) idle)) 0).pMaxInForce = 500 := by
  decide

/-- R82, R83: a lower stroke_ml clamps the accumulator, and the stroke now due is issued. -/
theorem test_lower_stroke_issues :
    (lineOf (run (.set 5 [5, 0, 0, 0, 3, 232]) (owed 5000)) 0).stroke.map Stroke.volume = some 1000 ∧
      (lineOf (run (.set 5 [5, 0, 0, 0, 3, 232]) (owed 5000)) 0).acc = 3000000000 := by
  decide +kernel

/-- R144: a request answered with its own kind plus 0x80 and its tag. -/
theorem test_reply : (run (.ping 5 [1, 2]) idle).clp.tx.map CabinTx.frame =
    some { kind := 0x82, tag := 5, payload := [0, 1, 2] } := by decide

/-- R139: an item leaves as a frame to its node under the count of that node. -/
theorem test_item_leaves : (run .machineTxDone (waiting (.advanceRate 60) idle)).mlp.tx =
    some { kind := 0x10, address := 4, sequence := 0, payload := [0, 60] } := by decide

/-- R16, R135: a silent essential node in BORING. -/
theorem test_silent_node_halts :
    (run (.silenceTimerExpiry .screw) boring).abu.haltCause = some (.node .screw) := by decide

/-- Section 4 of the scope: a millisecond passes while nothing waits. -/
theorem test_tick : (tick idle).ms = 1 := by decide

/-- A suspended build with every sector seated and every group HOLDING is resumed by a FACE sample and closes. -/
theorem witness_resumed_build_closes :
    let s : State := { keyLeft .placed with abu := { (keyLeft .placed).abu with phase := .buildSuspended } }
    let r := openedRecord (activePlan 7)
    let u := run (.faceSample 1 10 (faceP 218)) s
    HeardWell s .face (frame 0x01 1 10 (faceP 218)) ∧ RateLaw s ∧ s.rru.active = some (activePlan 7) ∧
      BearsFaceWithMargin { s with fbu := u.fbu } ∧ (sectorOf s (plan 7).keySector).state = .placed ∧
      (∀ g : Fin 7, (groupOf s g).state = .holding) ∧ s.rru.records.getLast? = some r ∧ r.status = .opened ∧
      HaltLaw s ∧ PlanLaw s ∧ NumberingLaw s ∧ OpenLaw s ∧ CompleteLaw s ∧ u.abu.phase = .ready := by decide

set_option maxRecDepth 8000 in
/-- START meets a grout ring with a stroke in flight, which joins the finishing list, and one with none, which is finished;
the record of the latter, else whole, becomes COMPLETE. -/
theorem witness_start_meets_the_previous_grout_ring :
    let s := { accountsOpen with gru := { accountsOpen.gru with finishing := [] } }
    let flying := { s with gru := { s.gru with groutRing := some 6 } }
    let landed := { flying with gru := { flying.gru with lines := idle.gru.lines, delivered := 4000 } }
    MayStart flying ∧ ¬FinishedAtStart flying 6 ∧ MayStart landed ∧ FinishedAtStart landed 6 ∧
      (run (.start 5 []) flying).gru.finishing.map Finishing.ring = [6] ∧
      ((run (.start 5 []) landed).rru.records.map fun r => (r.status, r.grout.deficit)).head? = some (.complete, 1000) := by
  decide

set_option maxRecDepth 4000 in
/-- R99, R100: the last in-flight stroke of a finishing ring is abandoned when its line is BLOCKED. -/
theorem test_abandoned_stroke_finishes_its_ring :
    (blockLine 0 .pressure accountsOpen).gru.finishing = [] ∧
      (blockLine 0 .pressure accountsOpen).rru.records.head?.map RingRecord.status = some .complete := by decide

/-! ## The bytes of the reads, written out from the chapters -/

/-- R151: stamp, section, phase (IDLE), the four link error counts, the lost count, the events waiting. -/
theorem test_status_header :
    statusHeader 5
        { idle with ms := 66051, clp := { idle.clp with gapCount := 1, crcCount := 2, lenCount := 3, overrunCount := 4, lost := 261 } } =
      [0, 1, 2, 3, 5, 1, 0, 1, 0, 2, 0, 3, 0, 4, 1, 5, 0] := by decide

/-- R104, R116: a TRAVELLING slice in the order of its fields, without closing point, verdict and ratio. -/
theorem test_slice_read :
    encSliceRead (slice 4 .travelling) =
      [0, 7, 4, 0, 0, 0, 0, 0, 0, 0, 100, 255, 255, 255, 255, 0, 0, 0, 0, 0, 0, 0, 0, 27, 191, 0, 0, 0, 0, 1, 255] ++
        [255, 255, 255, 255] := by decide

/-- R132, R151: section 6 of the idle machine: twelve LIVE nodes, not frozen, no item waiting. -/
theorem test_nodes_section : sectionBytes 6 idle = [1, 1, 1, 1, 1, 1, 1, 1, 1, 1, 1, 1, 0, 0] := by decide

/-- A list of fields is not spelled by bytes cut short, in another order or with a byte more. -/
theorem test_spelling_is_exact :
    [[0, 7, 4], [4, 0, 7], [0, 7], [0, 7, 4, 0]].map (spells [numberField 2 7, numberField 1 4]) =
      [true, false, false, false] := by decide

/-- Log 49: the Machine Line chooses first, so a status report formed in the same step shows no item waiting. -/
theorem test_machine_line_chooses_first :
    (settle (waiting (.advanceRate 60) toldFirst)).mlp.tx.isSome = true ∧
      ((settle (waiting (.advanceRate 60) toldFirst)).clp.tx.bind fun x => x.frame.payload.getLast?) = some 0 := by decide

end Sys2Proof.Tests
end

section
/-! SUPPORT. Frames heard well, recent events, and what every posting to the rate cap table keeps. -/

namespace Sys2Proof.Machine

/-! ## Frames of a LIVE node (R133, R134) -/

/-- Two changes of one node's entry are one. -/
theorem onNode_onNode (r : Role) (f g : Node → Node) (s : State) :
    onNode r g (onNode r f s) = onNode r (fun n => g (f n)) s := by
  unfold onNode updateAt State.onMlp
  simp

/-- A LIVE node whose fault flag is clear and whose echo matches stays LIVE, and nothing is told (R134). -/
theorem settleNode_well (r : Role) (f : MachineFrame) (s : State) (hl : (nodeOf s r).state = .live)
    (hj : frameJudged (nodeOf s r) r f = (false, true)) :
    settleNode r f s = onNode r (fun n => { n with state := .live, mismatchRun := 0 }) s := by
  have after : nodeAfter r (nodeOf s r) false true = (.live, 0, none) := by simp [nodeAfter, hl]
  simp [settleNode, hj, after, hl, queueIf]

/-- The entry that accepts a frame of a LIVE node, once its state is settled (R133, R134). -/
theorem acceptedNode_live (s : State) (r : Role) (sequence : Byte) (hl : (nodeOf s r).state = .live) :
    { acceptedNode s r sequence (nodeOf s r) with state := .live, mismatchRun := 0 } = heardNode s r sequence := by
  unfold acceptedNode heardNode skippedBefore
  cases (nodeOf s r).lastSequence <;> simp [hl, heldAdd, frameTop, startedTimer]

/-- A frame heard well reaches its role's block after its node's entry alone has changed (R133, R134, R136). -/
theorem machineFrame_heardWell (r : Role) (f : MachineFrame) (s : State) (h : HeardWell s r f) :
    machineFrame f s = deliver r f (heardOnly s r f.sequence) := by
  obtain ⟨hrole, hnew, hlive, hjudged⟩ := h
  have accepted : nodeOf (onNode r (acceptedNode s r f.sequence) s) r = acceptedNode s r f.sequence (nodeOf s r) := by
    rw [nodeOf_onNode, if_pos rfl]
  have heard : settleNode r f (onNode r (acceptedNode s r f.sequence) s) = heardOnly s r f.sequence := by
    rw [settleNode_well r f _ (by rw [accepted]; exact hlive) (by rw [accepted]; exact hjudged), onNode_onNode]
    unfold heardOnly heardMlp
    rw [← acceptedNode_live s r f.sequence hlive]
    rfl
  unfold machineFrame
  simp only [hrole, if_neg hnew, heard]

/-! ## The event queue (R149) -/

/-- An event stands in the event queue with at most `k` events behind it. -/
def RecentEvent (k : Nat) (b : EventBody) (u : State) : Prop :=
  ∃ older e newer, u.clp.events = older ++ e :: newer ∧ newer.length ≤ k ∧ e.body = b ∧ e.stamp = u.ms

/-- A recent event waits. -/
theorem RecentEvent.waits {k : Nat} {b : EventBody} {u : State} (h : RecentEvent k b u) : EventWaits b u := by
  obtain ⟨older, e, newer, he, -, hb, ht⟩ := h
  exact ⟨e, by simp [he], hb, ht⟩

/-- A recent event stays so while the port's events and the time stay. -/
theorem RecentEvent.congr {k j : Nat} {b : EventBody} {s u : State} (h : RecentEvent k b s)
    (he : u.clp.events = s.clp.events) (ht : u.ms = s.ms) (hk : k ≤ j) : RecentEvent j b u := by
  obtain ⟨older, e, newer, hs, hn, hb, hm⟩ := h
  exact ⟨older, e, newer, he.trans hs, hn.trans hk, hb, hm.trans ht.symm⟩

/-- An event just placed has none behind it. -/
theorem recentEvent_queueEvent (b : EventBody) (s : State) : RecentEvent 0 b (queueEvent b s) := by
  rw [queueEvent_eq]
  unfold RecentEvent withEvent
  split
  · exact ⟨_, _, [], rfl, le_rfl, rfl, rfl⟩
  · exact ⟨_, _, [], rfl, le_rfl, rfl, rfl⟩

/-- One more event leaves a recent one in the queue: a full queue loses its oldest (R149). -/
theorem RecentEvent.after_queueEvent {k : Nat} {b : EventBody} {s : State} (h : RecentEvent k b s) (hk : k < 31)
    (a : EventBody) : RecentEvent (k + 1) b (queueEvent a s) := by
  obtain ⟨older, e, newer, he, hn, hb, hm⟩ := h
  rw [queueEvent_eq]
  by_cases hlen : s.clp.events.length < 32
  · refine ⟨older, e, newer ++ [⟨a, newestNumber s, s.ms⟩], ?_, by simpa using hn, hb, hm⟩
    simp only [withEvent, if_pos hlen]
    simp [he]
  · cases older with
    | nil => simp [he] at hlen; omega
    | cons o older =>
      refine ⟨older, e, newer ++ [⟨a, newestNumber s, s.ms⟩], ?_, by simpa using hn, hb, hm⟩
      simp only [withEvent, if_neg hlen]
      simp [he]

/-- The number an event carries is not changed by a change of the records that keeps their plans. -/
theorem newestNumber_map (s t : State) (f : RingRecord → RingRecord) (hf : ∀ r, (f r).plan = r.plan)
    (h : t.rru.records = s.rru.records.map f) : newestNumber t = newestNumber s := by
  unfold newestNumber
  rw [h, List.getLast?_map, Option.map_map]
  congr 2
  funext r
  simp [hf]

/-! ## Postings to the rate cap table, whatever the rate (R6 to R8) -/

/-- A counted hold touches the advance part alone. -/
theorem heldRecords_cutter (s : State) :
    (heldRecords s).map RingRecord.cutter = s.rru.records.map RingRecord.cutter := by
  unfold heldRecords
  rw [List.map_map]
  refine List.map_congr_left fun r _ => ?_
  simp only [Function.comp]
  split <;> rfl

/-- A counted hold keeps the number of the newest record. -/
theorem newestNumber_heldRecords (s t : State) (h : t.rru.records = heldRecords s) :
    newestNumber t = newestNumber s := by
  refine newestNumber_map s t _ (fun r => ?_) h
  split <;> rfl

/-- A posting to the rate cap table leaves the number of the newest record. -/
theorem newestNumber_postCaps (f : Caps → Caps) (s : State) : newestNumber (postCaps f s) = newestNumber s := by
  unfold postCaps
  split
  · rfl
  · rw [recomputeRate_eq]
    split
    · exact newestNumber_heldRecords s _ rfl
    · rfl

/-- A posting to the rate cap table leaves the Cabin Link Port alone. -/
@[simp] theorem postCaps_clp (f : Caps → Caps) (s : State) : (postCaps f s).clp = s.clp := by
  unfold postCaps
  split
  · rfl
  · rw [recomputeRate_eq]; rfl

/-- A posting to the rate cap table takes no time. -/
@[simp] theorem postCaps_ms (f : Caps → Caps) (s : State) : (postCaps f s).ms = s.ms := by
  unfold postCaps
  split
  · rfl
  · rw [recomputeRate_eq]; rfl

end Sys2Proof.Machine
end

section
/-! SUPPORT. The parts of an entry into HALTED, the CUTTER sample that is stored, and what its transition check keeps
and queues (R16, R17, R47 to R55). -/

namespace Sys2Proof.Machine

/-! ## The parts of an entry into HALTED (R16, R17, R138, R140) -/

/-- Placing the safe-stop items changes the command queue, the freeze and the event queue (R138, R140). -/
theorem placeSafeStop_eq (set : List Command) (s : State) :
    placeSafeStop set s =
      { s with
        mlp := { s.mlp with queue := safeStopQueue set s.mlp.queue, frozen := false, freezeTimer := .stopped }
        clp := toldClp (if s.mlp.frozen = true then some (.freezeEnded true) else none) s } := by
  unfold placeSafeStop clearFreezeForSafeStop
  cases hf : s.mlp.frozen with
  | false => simp [State.onMlp, hf, toldClp]
  | true => simp only [State.onMlp, hf, if_true, queueEvent_eq]; rfl

/-- The state in which the safe-stop set is formed: HALTED, with SAFE_STOP queued and counted (R17 steps 1 to 3). -/
def haltAnnounced (c : HaltCause) (s : State) : State :=
  postAdvance (fun p => { p with safeStops := heldAdd 255 p.safeStops 1 })
    (queueEvent (.safeStop c s.abu.phase)
      (recomputeRate (s.onAbu fun a =>
        { a with
          phase := .halted, resumePhase := some s.abu.phase, haltCause := some c, furtherCauses := 0, rateSent := 0 })))

/-- Entry into HALTED: announced, then the groups and the safe-stop items, then the CHM and the FBU (R17). -/
theorem enterHalted_eq (c : HaltCause) (s : State) :
    enterHalted c s =
      screwHalt (cutterHalt (placeSafeStop (safeStopSet (haltAnnounced c s)) (haltGroups (haltAnnounced c s)))) := rfl

/-! ## The CUTTER sample before the transition check (R47, R48, R128) -/

/-- The roll alarm after a roll is judged (R48). -/
def rollJudged (level : Nat) (roll : Int) : RollAlarm := if (level : Int) ≤ max roll (-roll) then .raised else .armed

/-- The event of a roll alarm that rises (R48). -/
def rollEvent (roll : Int) (s : State) : Option EventBody :=
  if s.chm.alarm = .armed ∧ rollJudged s.cfb.cutter.rollAlarm roll = .raised then some (.rollAlarm roll) else none

/-- The records after a torque is posted in BORING (R47, R128). -/
def torqueRecords (t : Nat) (s : State) : List RingRecord :=
  s.rru.records.map fun r =>
    if s.abu.phase = .boring ∧ r.status = .opened ∧ r.buildFinal = false then
      { r with cutter := { r.cutter with maxTorque := some (max (r.cutter.maxTorque.getD 0) t) } }
    else r

/-- The state that the transition check of a CUTTER sample finds: the readings stored, the roll judged, the torque
posted (R47 steps 1 and 2). -/
def sampledCutter (x : CutterSample) (s : State) : State :=
  { s with
    chm := { s.chm with
      speed := some x.speed, torque := some x.torque, roll := some x.roll
      alarm := rollJudged s.cfb.cutter.rollAlarm x.roll }
    rru := { s.rru with records := torqueRecords x.torque s }
    clp := toldClp (rollEvent x.roll s) s }

/-- An alarm level reached or not, in the two spellings of the roll's magnitude. -/
theorem natAbs_le_iff (level : Nat) (roll : Int) : level ≤ roll.natAbs ↔ (level : Int) ≤ max roll (-roll) := by omega

/-- Judging the roll sets the alarm, and tells of one that rises (R48). -/
theorem judgeRoll_eq (roll : Int) (s : State) :
    judgeRoll roll s =
      { s with
        chm := { s.chm with alarm := rollJudged s.cfb.cutter.rollAlarm roll }
        clp := toldClp (rollEvent roll s) s } := by
  have level := natAbs_le_iff s.cfb.cutter.rollAlarm roll
  have kept : ∀ a : RollAlarm, s.chm.alarm = a → { s.chm with alarm := a } = s.chm := by
    rintro a rfl; rfl
  unfold judgeRoll rollEvent rollJudged
  by_cases hr : (s.cfb.cutter.rollAlarm : Int) ≤ max roll (-roll)
  · have hn := level.mpr hr
    cases ha : s.chm.alarm with
    | armed => simp only [hn, hr, if_true, and_self, queueEvent_eq]; rfl
    | raised => simp [hr, kept _ ha, toldClp, Nat.not_lt.mpr hn]
  · have hn : ¬ s.cfb.cutter.rollAlarm ≤ roll.natAbs := fun h => hr (level.mp h)
    cases ha : s.chm.alarm with
    | armed => simp [hr, hn, kept _ ha, toldClp]
    | raised => simp only [hr, Nat.not_le.mp hn, if_true, if_false]; rfl

/-- Posting the torque changes the records alone (R47, R128). -/
theorem postTorque_eq (t : Nat) (s : State) :
    postTorque t s = { s with rru := { s.rru with records := torqueRecords t s } } := by
  unfold postTorque torqueRecords
  by_cases hb : s.abu.phase = .boring
  · simp only [hb, if_true, true_and]
    refine congrArg (fun rs => { s with rru := { s.rru with records := rs } }) (List.map_congr_left fun r _ => ?_)
    cases top : r.cutter.maxTorque <;> simp [top]
  · simp [hb]

/-- A CUTTER sample is the transition check on the state with the sample stored (R47). -/
theorem cutterSample_eq (x : CutterSample) (s : State) : cutterSample x s = checkCutter x (sampledCutter x s) := by
  simp only [cutterSample, judgeRoll_eq, postTorque_eq]
  rfl

/-- The cutter parts after a torque is posted. -/
theorem torqueRecords_cutter (t : Nat) (s : State) :
    (torqueRecords t s).map RingRecord.cutter =
      s.rru.records.map fun r =>
        if s.abu.phase = .boring ∧ r.status = .opened ∧ r.buildFinal = false then
          { r.cutter with maxTorque := some (max (r.cutter.maxTorque.getD 0) t) }
        else r.cutter := by
  unfold torqueRecords
  rw [List.map_map]
  refine List.map_congr_left fun r _ => ?_
  exact apply_ite RingRecord.cutter _ _ _

/-- An alarm that has risen was told last. -/
theorem sampledCutter_recent (x : CutterSample) (s : State) (ha : s.chm.alarm = .armed)
    (hr : rollJudged s.cfb.cutter.rollAlarm x.roll = .raised) :
    RecentEvent 0 (.rollAlarm x.roll) (sampledCutter x s) := by
  refine (recentEvent_queueEvent (.rollAlarm x.roll) s).congr ?_ rfl le_rfl
  have told : rollEvent x.roll s = some (.rollAlarm x.roll) := by simp [rollEvent, ha, hr]
  simp only [sampledCutter, told, queueEvent_eq, toldClp]

/-! ## An overtorque trip before its safe stop (R53) -/

/-- The state with the cutterhead TRIPPED and the CUTTER entry posted (R53). -/
def cutterTripped (s : State) : State :=
  postCutter (.rate 0) (s.onChm fun c => { c with state := .tripped, band := none, speedSent := 0 })

/-- An overtorque trip goes on into HALTED, or is counted there (R53, R16, R18). -/
theorem tripCutter_eq (s : State) :
    tripCutter s =
      if s.abu.phase = .halted then furtherCause .cutterTrip (cutterTripped s)
      else enterHalted .cutterTrip (cutterTripped s) := rfl

/-! ## What no transition of the cutter state touches -/

/-- What the transition check of a CUTTER sample leaves as it was, whatever the cutter state (R47 step 3). -/
structure CutterCheckKeeps (s u : State) : Prop where
  speed : u.chm.speed = s.chm.speed
  torque : u.chm.torque = s.chm.torque
  roll : u.chm.roll = s.chm.roll
  alarm : u.chm.alarm = s.chm.alarm
  direction : u.chm.direction = s.chm.direction
  mode : u.chm.mode = s.chm.mode
  manualSpeed : u.chm.manualSpeed = s.chm.manualSpeed
  mbu : u.mbu = s.mbu
  gru : u.gru = s.gru
  cfb : u.cfb = s.cfb
  ms : u.ms = s.ms
  pending : u.pending = s.pending
  cutterParts : u.rru.records.map RingRecord.cutter = s.rru.records.map RingRecord.cutter

namespace CutterCheckKeeps

/-- Nothing done. -/
theorem refl (s : State) : CutterCheckKeeps s s := by constructor <;> rfl

/-- One operation after the other. -/
theorem trans {s t u : State} (h : CutterCheckKeeps s t) (k : CutterCheckKeeps t u) : CutterCheckKeeps s u where
  speed := k.speed.trans h.speed
  torque := k.torque.trans h.torque
  roll := k.roll.trans h.roll
  alarm := k.alarm.trans h.alarm
  direction := k.direction.trans h.direction
  mode := k.mode.trans h.mode
  manualSpeed := k.manualSpeed.trans h.manualSpeed
  mbu := k.mbu.trans h.mbu
  gru := k.gru.trans h.gru
  cfb := k.cfb.trans h.cfb
  ms := k.ms.trans h.ms
  pending := k.pending.trans h.pending
  cutterParts := k.cutterParts.trans h.cutterParts

/-- A new cutter state, band, speed command or start timer. -/
theorem of_onChm (f : Chm → Chm) (s : State)
    (h : f s.chm =
      { s.chm with
        state := (f s.chm).state, band := (f s.chm).band, speedSent := (f s.chm).speedSent
        startTimer := (f s.chm).startTimer }) :
    CutterCheckKeeps s (s.onChm f) := by
  constructor <;> simp only [State.onChm] <;> rw [h]

/-- An event. -/
theorem of_queueEvent (b : EventBody) (s : State) : CutterCheckKeeps s (queueEvent b s) := by constructor <;> rfl

/-- A recomputation of the rate, after any change of the ABU. -/
theorem of_recomputeRate (f : Abu → Abu) (s : State) : CutterCheckKeeps s (recomputeRate (s.onAbu f)) := by
  rw [recomputeRate_eq]
  constructor <;> try rfl
  exact (apply_ite (List.map RingRecord.cutter) _ _ _).trans (by rw [heldRecords_cutter]; exact ite_self _)

/-- A posting to the rate cap table. -/
theorem of_postCaps (f : Caps → Caps) (s : State) : CutterCheckKeeps s (postCaps f s) := by
  unfold postCaps
  split
  · exact refl s
  · exact of_recomputeRate _ s

/-- A drive order. -/
theorem of_driveOrder (o : DriveOrder) (v : Nat) (s : State) : CutterCheckKeeps s (driveOrder o v s) := by
  constructor <;> rfl

/-- A posting to the advance part. -/
theorem of_postAdvance (f : AdvancePart → AdvancePart) (s : State) : CutterCheckKeeps s (postAdvance f s) := by
  constructor <;> try rfl
  show List.map RingRecord.cutter (List.map _ s.rru.records) = _
  rw [List.map_map]
  refine List.map_congr_left fun r _ => ?_
  simp only [Function.comp]
  split <;> rfl

/-- The safe-stop items. -/
theorem of_placeSafeStop (set : List Command) (s : State) : CutterCheckKeeps s (placeSafeStop set s) := by
  rw [placeSafeStop_eq]
  constructor <;> rfl

/-- A safe-stop cause counted in HALTED. -/
theorem of_furtherCause (c : HaltCause) (s : State) : CutterCheckKeeps s (furtherCause c s) := by constructor <;> rfl

/-- The CHM's part of an entry into HALTED. -/
theorem of_cutterHalt (s : State) : CutterCheckKeeps s (cutterHalt s) := by
  unfold cutterHalt
  split
  · exact (of_onChm _ s rfl).trans ((of_postCaps _ _).trans (of_onChm _ _ rfl))
  · exact refl s

/-- An entry into HALTED. -/
theorem of_enterHalted (c : HaltCause) (s : State) : CutterCheckKeeps s (enterHalted c s) := by
  have announced : CutterCheckKeeps s (haltAnnounced c s) :=
    (of_recomputeRate _ s).trans ((of_queueEvent _ _).trans (of_postAdvance _ _))
  have grouped : CutterCheckKeeps (haltAnnounced c s) (haltGroups (haltAnnounced c s)) := by constructor <;> rfl
  have screwed : ∀ t, CutterCheckKeeps t (screwHalt t) := fun t => by constructor <;> rfl
  rw [enterHalted_eq]
  exact announced.trans (grouped.trans ((of_placeSafeStop _ _).trans ((of_cutterHalt _).trans (screwed _))))

/-- An overtorque trip. -/
theorem of_tripCutter (s : State) : CutterCheckKeeps s (tripCutter s) := by
  have posted : CutterCheckKeeps s (cutterTripped s) := by
    unfold cutterTripped
    exact (of_onChm _ s rfl).trans (of_postCaps _ _)
  rw [tripCutter_eq]
  split
  · exact posted.trans (of_furtherCause _ _)
  · exact posted.trans (of_enterHalted _ _)

/-- A torque judged below the trip level. -/
theorem of_judgeTorque (t : Nat) (s : State) : CutterCheckKeeps s (judgeTorque t s) := by
  have posted : ∀ v b, CutterCheckKeeps s ((postCutter v s).onChm fun c => { c with band := b }) :=
    fun v b => (of_postCaps _ s).trans (of_onChm _ _ rfl)
  unfold judgeTorque
  split
  · exact of_postCaps _ s
  · split
    · exact posted _ _
    · split
      · exact posted _ _
      · exact (posted _ _).trans (of_queueEvent _ _)

/-- The judgement of a sample in RUNNING. -/
theorem of_judgeRunning (x : CutterSample) (s : State) : CutterCheckKeeps s (judgeRunning x s) := by
  unfold judgeRunning
  split
  · exact of_tripCutter s
  · exact of_judgeTorque _ s

/-- A drive that drops out. -/
theorem of_cutterDropOut (v : Nat) (s : State) : CutterCheckKeeps s (cutterDropOut v s) :=
  (of_onChm _ s rfl).trans ((of_driveOrder _ _ _).trans ((of_postCaps _ _).trans (of_queueEvent _ _)))

/-- The transition check as a whole. -/
theorem of_checkCutter (x : CutterSample) (s : State) : CutterCheckKeeps s (checkCutter x s) := by
  unfold checkCutter
  cases s.chm.state with
  | stopped | tripped => exact refl s
  | starting =>
    simp only
    split
    · exact (of_onChm _ s rfl).trans (of_judgeRunning _ _)
    · exact refl s
  | running =>
    simp only
    split
    · exact of_judgeRunning _ s
    · exact of_cutterDropOut _ s
  | stopping =>
    simp only
    split
    · exact (of_onChm _ s rfl).trans (of_postCaps _ _)
    · exact refl s

end CutterCheckKeeps

/-! ## The events of a transition check -/

/-- A recent event through a step that leaves the Cabin Link Port and the time alone. -/
theorem RecentEvent.of_clp {k : Nat} {b : EventBody} {s u : State} (h : RecentEvent k b s) (hc : u.clp = s.clp)
    (hm : u.ms = s.ms) : RecentEvent k b u :=
  h.congr (by rw [hc]) hm le_rfl

/-- A recent event is recent by every larger bound. -/
theorem RecentEvent.mono {k j : Nat} {b : EventBody} {s : State} (h : RecentEvent k b s) (hk : k ≤ j) :
    RecentEvent j b s :=
  h.congr rfl rfl hk

/-- A recent event through a change of the CHM. -/
theorem RecentEvent.onChm {k : Nat} {b : EventBody} {s : State} (h : RecentEvent k b s) (f : Chm → Chm) :
    RecentEvent k b (s.onChm f) :=
  h.of_clp rfl rfl

/-- A recent event through a posting to the rate cap table. -/
theorem RecentEvent.after_postCaps {k : Nat} {b : EventBody} {s : State} (h : RecentEvent k b s) (f : Caps → Caps) :
    RecentEvent k b (postCaps f s) :=
  h.of_clp (postCaps_clp f s) (postCaps_ms f s)

/-- SAFE_STOP, and FREEZE_ENDED when a freeze is cleared: an entry into HALTED queues at most two events. -/
theorem RecentEvent.after_enterHalted {k : Nat} {b : EventBody} {s : State} (h : RecentEvent k b s) (hk : k < 30)
    (c : HaltCause) : RecentEvent (k + 2) b (enterHalted c s) := by
  have rated : RecentEvent k b (recomputeRate (s.onAbu fun a =>
      { a with
        phase := .halted, resumePhase := some s.abu.phase, haltCause := some c, furtherCauses := 0, rateSent := 0 })) :=
    h.of_clp (by rw [recomputeRate_eq]; rfl) (CutterCheckKeeps.of_recomputeRate _ s).ms
  have announced : RecentEvent (k + 1) b (haltAnnounced c s) :=
    (rated.after_queueEvent (by omega) _).of_clp rfl rfl
  have grouped : RecentEvent (k + 1) b (haltGroups (haltAnnounced c s)) := announced.of_clp rfl rfl
  have placed : ∀ set t, RecentEvent (k + 1) b t → RecentEvent (k + 2) b (placeSafeStop set t) := by
    intro set t ht
    rw [placeSafeStop_eq]
    cases t.mlp.frozen with
    | false => exact (ht.of_clp rfl rfl).mono (by omega)
    | true => exact (ht.after_queueEvent (by omega) (.freezeEnded true)).of_clp (by rw [queueEvent_eq]; rfl) rfl
  have turned : ∀ t, RecentEvent (k + 2) b t → RecentEvent (k + 2) b (cutterHalt t) := by
    intro t ht
    unfold cutterHalt
    split
    · exact ((ht.onChm _).after_postCaps _).onChm _
    · exact ht
  rw [enterHalted_eq]
  exact (turned _ (placed _ _ grouped)).of_clp rfl rfl

/-- A cause counted in HALTED queues one event. -/
theorem RecentEvent.after_furtherCause {k : Nat} {b : EventBody} {s : State} (h : RecentEvent k b s) (hk : k < 31)
    (c : HaltCause) : RecentEvent (k + 1) b (furtherCause c s) := by
  have counted : RecentEvent k b (s.onAbu fun a => { a with furtherCauses := heldAdd 255 a.furtherCauses 1 }) :=
    h.of_clp rfl rfl
  exact counted.after_queueEvent hk _

/-- An overtorque trip queues at most two events. -/
theorem RecentEvent.after_tripCutter {k : Nat} {b : EventBody} {s : State} (h : RecentEvent k b s) (hk : k < 30) :
    RecentEvent (k + 2) b (tripCutter s) := by
  have posted : RecentEvent k b (cutterTripped s) := (h.onChm _).after_postCaps _
  rw [tripCutter_eq]
  split
  · exact (posted.after_furtherCause (by omega) _).mono (by omega)
  · exact posted.after_enterHalted hk _

/-- A torque judged below the trip level queues at most one event. -/
theorem RecentEvent.after_judgeTorque {k : Nat} {b : EventBody} {s : State} (h : RecentEvent k b s) (hk : k < 31)
    (t : Nat) : RecentEvent (k + 1) b (judgeTorque t s) := by
  have banded : ∀ v a, RecentEvent k b ((postCutter v s).onChm fun c => { c with band := a }) :=
    fun v a => (h.after_postCaps _).onChm _
  unfold judgeTorque
  split
  · exact (h.after_postCaps _).mono (by omega)
  · split
    · exact (banded _ _).mono (by omega)
    · simp only
      split
      · exact (banded _ _).mono (by omega)
      · exact (banded _ _).after_queueEvent hk _

/-- The judgement of a sample in RUNNING queues at most two events. -/
theorem RecentEvent.after_judgeRunning {k : Nat} {b : EventBody} {s : State} (h : RecentEvent k b s) (hk : k < 30)
    (x : CutterSample) : RecentEvent (k + 2) b (judgeRunning x s) := by
  unfold judgeRunning
  split
  · exact h.after_tripCutter hk
  · exact (h.after_judgeTorque (by omega) _).mono (by omega)

/-- The transition check queues at most two events, so the roll alarm still waits after it. -/
theorem RecentEvent.after_checkCutter {k : Nat} {b : EventBody} {s : State} (h : RecentEvent k b s) (hk : k < 30)
    (x : CutterSample) : RecentEvent (k + 2) b (checkCutter x s) := by
  unfold checkCutter
  cases s.chm.state with
  | stopped | tripped => exact h.mono (by omega)
  | starting =>
    simp only
    split
    · exact (h.onChm _).after_judgeRunning hk x
    · exact h.mono (by omega)
  | running =>
    simp only
    split
    · exact h.after_judgeRunning hk x
    · have ordered : ∀ f : Chm → Chm, RecentEvent k b (driveOrder .stop 0 (s.onChm f)) :=
        fun f => (h.onChm f).of_clp rfl rfl
      exact (((ordered _).after_postCaps _).after_queueEvent (by omega) _).mono (by omega)
  | stopping =>
    simp only
    split
    · exact ((h.onChm _).after_postCaps _).mono (by omega)
    · exact h.mono (by omega)

end Sys2Proof.Machine
end

section
/-! SUPPORT. The transitions of the cutter state, one by one (R51 to R55). -/

namespace Sys2Proof.Machine

/-! ## The cases of the transition check -/

/-- A drive has arrived at nine tenths of its command (R51). -/
theorem cutterArrived_iff (x : CutterSample) (s : State) :
    cutterArrived x s = true ↔ x.running = true ∧ 0 < s.chm.speedSent ∧ s.chm.speedSent * 9 ≤ x.speed * 10 := by
  have nineTenths : s.chm.speedSent * 900 ≤ x.speed * 1000 ↔ s.chm.speedSent * 9 ≤ x.speed * 10 := by omega
  simp [cutterArrived, nineTenths, and_assoc]

/-- A sample that shows no arrival: the cutterhead STOPPED or TRIPPED, STARTING below nine tenths of its command, or
STOPPING and not at rest. -/
abbrev CutterWaits (x : CutterSample) (s : State) : Prop :=
  s.chm.state = .stopped ∨ s.chm.state = .tripped ∨
    (s.chm.state = .starting ∧ (x.running = false ∨ s.chm.speedSent = 0 ∨ x.speed * 10 < s.chm.speedSent * 9)) ∨
    (s.chm.state = .stopping ∧ (x.running = true ∨ 5 ≤ x.speed))

/-- Such a sample changes nothing beyond what it stores (R51, R55). -/
theorem checkCutter_waits (x : CutterSample) (s : State) (h : CutterWaits x s) : checkCutter x s = s := by
  unfold checkCutter
  rcases h with h | h | ⟨h, away⟩ | ⟨h, turning⟩
  · simp only [h]
  · simp only [h]
  · have notThere : ¬ cutterArrived x s = true := by
      rw [cutterArrived_iff]
      rintro ⟨hr, hs, hv⟩
      rcases away with a | a | a
      · simp [a] at hr
      · omega
      · omega
    simp only [h, if_neg notThere]
  · have notRest : ¬ (x.running = false ∧ x.speed < 5) := by
      rintro ⟨hr, hv⟩
      rcases turning with a | a
      · simp [a] at hr
      · omega
    simp only [h, if_neg notRest]

/-! ## A CUTTER sample that is heard well (R47, R133 to R136) -/

/-- The state that the transition check finds: the node's entry has accepted the frame, and the sample is stored. -/
def cutterFound (sequence : Byte) (p : List Byte) (s : State) : State :=
  sampledCutter (readCutterSample p) (heardOnly s .cutter sequence)

/-- A CUTTER sample heard well is its transition check. -/
theorem exec_cutterSample_heard (address sequence : Byte) (p : List Byte) (s : State)
    (h : HeardWell s .cutter { kind := 0x01, address := address, sequence := sequence, payload := p }) :
    exec (.cutterSample address sequence p) s =
      .next (settle (checkCutter (readCutterSample p) (cutterFound sequence p s))) := by
  unfold cutterFound
  rw [← cutterSample_eq]
  exact congrArg (fun t => Host.Outcome.next (settle t)) (machineFrame_heardWell _ _ _ h)

/-! ## The transitions of the cutter state under the rate law (R51 to R55) -/

/-- What a posting of the CUTTER entry leaves in the ABU, the FBU and the CHM (R6 to R8). -/
theorem postCutter_blocks (v : Cap) (s : State) (h : RateLaw s) :
    (postCutter v s).abu = abuWithCaps { s.abu.caps with cutter := v } s.abu ∧ (postCutter v s).fbu = s.fbu ∧
      (postCutter v s).chm = s.chm := by
  obtain ⟨⟨habu, -, -, -, -, -, hfbu, hchm, -⟩, -⟩ := postCaps_posted (fun c => { c with cutter := v }) s h
  exact ⟨habu, hfbu, hchm⟩

/-- The CUTTER entry that a torque below the trip level asks for (R52). -/
def torqueEntry (t : Nat) (s : State) : Cap :=
  if s.chm.speedSent = 0 then .rate 0
  else if t ≤ s.cfb.cutter.torqueDerate then .noLimit
  else .rate (deratedRate s.cfb.cutter s.abu.caps.plan t)

/-- The torque band that a torque below the trip level leaves (R52). -/
def torqueBand (t : Nat) (s : State) : Option TorqueBand :=
  if s.chm.speedSent = 0 then s.chm.band
  else if t ≤ s.cfb.cutter.torqueDerate then some .normal
  else some .derate

/-- A torque below the trip level sets the band and the CUTTER entry, and tells of an entry into DERATE (R52). -/
theorem judgeTorque_blocks (t : Nat) (s : State) (h : RateLaw s) :
    (judgeTorque t s).chm = { s.chm with band := torqueBand t s } ∧
      (judgeTorque t s).abu = abuWithCaps { s.abu.caps with cutter := torqueEntry t s } s.abu ∧
      (judgeTorque t s).fbu = s.fbu ∧
      (torqueBand t s = some .derate → s.chm.band ≠ some .derate →
        EventWaits (.cutterDerate (deratedRate s.cfb.cutter s.abu.caps.plan t)) (judgeTorque t s)) := by
  unfold judgeTorque torqueBand torqueEntry
  by_cases hs : s.chm.speedSent = 0
  · obtain ⟨habu, hfbu, hchm⟩ := postCutter_blocks (.rate 0) s h
    simp only [if_pos hs]
    exact ⟨hchm, habu, hfbu, fun held fresh => absurd held fresh⟩
  · by_cases ht : t ≤ s.cfb.cutter.torqueDerate
    · obtain ⟨habu, hfbu, hchm⟩ := postCutter_blocks .noLimit s h
      simp only [if_neg hs, if_pos ht, State.onChm_chm, hchm]
      exact ⟨trivial, habu, hfbu, by simp⟩
    · obtain ⟨habu, hfbu, hchm⟩ := postCutter_blocks (.rate (deratedRate s.cfb.cutter s.abu.caps.plan t)) s h
      simp only [if_neg hs, if_neg ht]
      split
      · rename_i held
        simp only [State.onChm_chm, hchm]
        exact ⟨trivial, habu, hfbu, fun _ fresh => absurd held fresh⟩
      · simp only [queueEvent_chm, queueEvent_abu, queueEvent_fbu, State.onChm_chm, hchm]
        exact ⟨trivial, habu, hfbu, fun _ _ => eventWaits_queueEvent _ _⟩

/-- A cutterhead that turns at its command: RUNNING with the drive running, or STARTING and arrived (R51, R53). -/
abbrev CutterAtSpeed (x : CutterSample) (s : State) : Prop :=
  (s.chm.state = .running ∧ x.running = true) ∨
    (s.chm.state = .starting ∧ x.running = true ∧ 0 < s.chm.speedSent ∧ s.chm.speedSent * 9 ≤ x.speed * 10)

/-- The state with the cutterhead RUNNING; an arrival stops the start timer (R51). -/
def cutterRuns (s : State) : State :=
  s.onChm fun c =>
    { c with state := .running, startTimer := if c.state = .starting then .stopped else c.startTimer }

/-- At its command the cutterhead is RUNNING, and the torque is judged (R47, R51). -/
theorem checkCutter_atSpeed (x : CutterSample) (s : State) (h : CutterAtSpeed x s) :
    checkCutter x s = judgeRunning x (cutterRuns s) := by
  unfold checkCutter cutterRuns State.onChm
  rcases h with ⟨hstate, hrun⟩ | ⟨hstate, arrived⟩
  · have same : { s.chm with state := .running, startTimer := s.chm.startTimer } = s.chm := by rw [← hstate]
    simp [hstate, hrun, same]
  · simp [hstate, (cutterArrived_iff x s).mpr arrived]

/-- An item other than the advance rate goes on waiting when a posting sends a new rate (R7, R137). -/
theorem itemWaits_postCaps (c : Command) (f : Caps → Caps) (s : State) (h : RateLaw s) (hc : keyOf c ≠ .advanceRate)
    (hw : ItemWaits c s) : ItemWaits c (postCaps f s) := by
  obtain ⟨⟨-, hmlp, -⟩, -⟩ := postCaps_posted f s h
  obtain ⟨i, hi, rfl⟩ := hw
  refine ⟨i, ?_, rfl⟩
  rw [hmlp]
  unfold queueAfter
  split
  · exact (mem_placedQueue_other (.advanceRate _) _ i hc).mpr hi
  · exact hi

/-- A running drive that reports itself not running (R54). -/
theorem cutterDropOut_blocks (v : Nat) (s : State) (h : RateLaw s) :
    (cutterDropOut v s).chm = { s.chm with state := .stopping, band := none, speedSent := 0 } ∧
      (cutterDropOut v s).abu = abuWithCaps { s.abu.caps with cutter := .rate 0 } s.abu ∧
      (cutterDropOut v s).fbu = s.fbu ∧ ItemWaits (.driveOrder .stop 0 s.chm.direction) (cutterDropOut v s) ∧
      EventWaits (.cutterStopped v) (cutterDropOut v s) := by
  have law : RateLaw (driveOrder .stop 0 (s.onChm fun c => { c with state := .stopping, band := none })) := h
  obtain ⟨habu, hfbu, hchm⟩ := postCutter_blocks (.rate 0) _ law
  refine ⟨hchm, habu, hfbu, ?_, eventWaits_queueEvent _ _⟩
  exact itemWaits_postCaps _ _ _ law (by simp [keyOf]) (placedQueue_mem _ _)

/-! ## An overtorque trip (R53, R16 to R18) -/

/-- The ABU once HALTED is announced (R16). -/
theorem haltAnnounced_abu (c : HaltCause) (s : State) :
    (haltAnnounced c s).abu =
      abuWithCaps s.abu.caps
        { s.abu with
          phase := .halted, resumePhase := some s.abu.phase, haltCause := some c, furtherCauses := 0
          rateSent := 0 } := by
  unfold haltAnnounced
  rw [postAdvance_abu, queueEvent_abu, recomputeRate_eq]
  rfl

/-- The announcement leaves the CHM alone. -/
theorem haltAnnounced_chm (c : HaltCause) (s : State) : (haltAnnounced c s).chm = s.chm := by
  unfold haltAnnounced
  rw [postAdvance_chm, queueEvent_chm, recomputeRate_eq]
  rfl

/-- A cutterhead that does not turn is left alone by an entry into HALTED, whose items head the queue (R17, R55). -/
theorem enterHalted_notTurning (c : HaltCause) (s : State) (h : cutterTurning s = false) :
    (enterHalted c s).chm = s.chm ∧
      (enterHalted c s).abu = { (haltAnnounced c s).abu with groups := (enterHalted c s).abu.groups } ∧
      (enterHalted c s).mlp.queue.take 4 =
        [Command.advanceRate 0, .driveOrder .stop 0 s.chm.direction, .screwSpeed 0, .screwGate .closed].map
          fun i => { command := i, safety := true } := by
  have chm := haltAnnounced_chm c s
  have still :
      cutterTurning (placeSafeStop (safeStopSet (haltAnnounced c s)) (haltGroups (haltAnnounced c s))) = false := by
    rw [placeSafeStop_eq]
    unfold cutterTurning at h ⊢
    rw [← chm] at h
    exact h
  rw [enterHalted_eq]
  unfold cutterHalt
  rw [if_neg (by simp [still]), placeSafeStop_eq]
  refine ⟨chm, rfl, ?_⟩
  rw [← chm]
  rfl

/-- An overtorque trip leaves the cutterhead TRIPPED and the device HALTED, with the CUTTER entry 0 (R53). -/
theorem tripCutter_blocks (s : State) (h : RateLaw s) :
    (tripCutter s).chm = { s.chm with state := .tripped, band := none, speedSent := 0 } ∧
      (tripCutter s).abu.caps.cutter = .rate 0 ∧ (tripCutter s).abu.phase = .halted ∧
      (tripCutter s).abu.rateSent = (if s.abu.phase = .halted then s.abu.rateSent else 0) ∧
      (s.abu.phase ≠ .halted →
        (tripCutter s).abu.resumePhase = some s.abu.phase ∧ (tripCutter s).abu.haltCause = some .cutterTrip ∧
          (tripCutter s).abu.furtherCauses = 0 ∧
          (tripCutter s).mlp.queue.take 4 =
            [Command.advanceRate 0, .driveOrder .stop 0 s.chm.direction, .screwSpeed 0, .screwGate .closed].map
              fun c => { command := c, safety := true }) := by
  have law : RateLaw (s.onChm fun c => { c with state := .tripped, band := none, speedSent := 0 }) := h
  obtain ⟨abu, -, chm⟩ : (cutterTripped s).abu = _ ∧ _ ∧ (cutterTripped s).chm = _ := postCutter_blocks (.rate 0) _ law
  have phase : (cutterTripped s).abu.phase = s.abu.phase := by rw [abu]; rfl
  have cutter : (cutterTripped s).abu.caps.cutter = .rate 0 := by rw [abu]; rfl
  rw [tripCutter_eq]
  by_cases hp : s.abu.phase = .halted
  · have sent : (cutterTripped s).abu.rateSent = s.abu.rateSent := by
      rw [abu, h.2.2]
      simp [abuWithCaps, rateCommand, hp]
    rw [if_pos hp, if_pos hp]
    exact ⟨chm, cutter, phase.trans hp, sent, fun active => absurd hp active⟩
  · obtain ⟨haltChm, haltAbu, queue⟩ :=
      enterHalted_notTurning .cutterTrip (cutterTripped s) (by simp [cutterTurning, chm])
    rw [haltAnnounced_abu] at haltAbu
    rw [if_neg hp, if_neg hp, haltAbu, haltChm, queue, chm]
    exact ⟨rfl, cutter, rfl, rfl, fun _ => ⟨congrArg some phase, rfl, rfl, rfl⟩⟩

/-- A cutterhead at its command below the trip level is RUNNING, and its torque is judged (R51, R52). -/
theorem checkCutter_belowTrip (x : CutterSample) (s : State) (hat : CutterAtSpeed x s)
    (ht : x.torque < s.cfb.cutter.torqueTrip) : checkCutter x s = judgeTorque x.torque (cutterRuns s) :=
  (checkCutter_atSpeed x s hat).trans (if_neg (Nat.not_le.mpr ht))

/-- A cutterhead at its command with a torque at the trip level trips (R53). -/
theorem checkCutter_trips (x : CutterSample) (s : State) (hat : CutterAtSpeed x s)
    (ht : s.cfb.cutter.torqueTrip ≤ x.torque) : checkCutter x s = tripCutter (cutterRuns s) :=
  (checkCutter_atSpeed x s hat).trans (if_pos ht)

/-- A drive that reports itself not running in RUNNING drops out (R54). -/
theorem checkCutter_dropsOut (x : CutterSample) (s : State) (hs : s.chm.state = .running) (hr : x.running = false) :
    checkCutter x s = cutterDropOut x.speed s := by
  simp [checkCutter, hs, hr]

/-- A STOPPING cutterhead at rest is STOPPED (R55). -/
theorem checkCutter_rests (x : CutterSample) (s : State) (hs : s.chm.state = .stopping) (hr : x.running = false)
    (hv : x.speed < 5) :
    checkCutter x s = postCutter (.rate 0) (s.onChm fun c => { c with state := .stopped }) := by
  simp [checkCutter, hs, hr, hv]

end Sys2Proof.Machine
end

section
/-! SUPPORT. The expiries of the timers outside the cutterhead's transitions. -/

namespace Sys2Proof.Machine

/-! ## Expiries of timers (R21, R51, R61, R85, R87, R152) -/

/-- The pacing timer's expiry looks for a raised change flag (R152). -/
theorem anyFlag_eq (s : State) : anyFlag s = decide (∃ n : Fin 7, flagRaised s n = true) := by
  have all : ∀ n : Fin 7, n ∈ allGroups := by decide
  have flag : (firstFlagged s).isSome = true ↔ ∃ n : Fin 7, flagRaised s n = true := by
    simp [firstFlagged, List.find?_isSome, all]
  exact Bool.eq_iff_iff.mpr (flag.trans (by simp))

/-- An event is placed without a look at the silence timer. -/
theorem withEvent_silenceTimer (b : EventBody) (n : Nat) (now : Stamp) (t : Timer) (c : Clp) :
    withEvent b n now { c with silenceTimer := t } = { withEvent b n now c with silenceTimer := t } := by
  unfold withEvent
  split <;> rfl

/-- A running cabin silence timer that expires holds the machine and tells HOST_SILENT (R21). -/
theorem cabinSilenceExpires_running (s : State) (hr : isRunning s.clp.silenceTimer = true) (h : RateLaw s) :
    CapsPosted { s.abu.caps with cabin := .rate 0 } s (cabinSilenceExpires s) ∧
      (cabinSilenceExpires s).clp =
        { withEvent .hostSilent (newestNumber s) s.ms s.clp with silenceTimer := .stopped } := by
  have law : RateLaw (s.onClp fun c => { c with silenceTimer := .stopped }) := h
  obtain ⟨posted, clp⟩ := postCaps_posted (fun c => { c with cabin := .rate 0 }) _ law
  unfold cabinSilenceExpires
  rw [if_pos hr, queueEvent_eq]
  refine ⟨posted, ?_⟩
  unfold postCabin
  rw [newestNumber_postCaps, postCaps_ms, clp]
  exact withEvent_silenceTimer _ _ _ _ _

end Sys2Proof.Machine
end

section
/-! PROOF. The statements of the cutterhead monitor's family. -/

namespace Sys2Proof.Machine

/-- Settles O37: the sample is stored and judged before the transition check, which keeps what it stored and queues too
few events to push ROLL_ALARM out. -/
theorem cutterSampleJudgesTheRoll : Obligations.CutterSampleJudgesTheRoll := by
  intro address sequence p s heard
  have kept := CutterCheckKeeps.of_checkCutter (readCutterSample p) (cutterFound sequence p s)
  refine ⟨_, exec_cutterSample_heard address sequence p s heard, kept.speed, kept.torque, kept.roll, kept.alarm, ?_,
    kept.direction, kept.mode, kept.manualSpeed, kept.mbu, kept.gru, kept.cfb, kept.ms, kept.pending, ?_, ?_⟩
  · intro armed raised
    have told : RecentEvent 0 (.rollAlarm (intAt p 5 2)) (cutterFound sequence p s) :=
      sampledCutter_recent (readCutterSample p) (heardOnly s .cutter sequence) armed (kept.alarm.symm.trans raised)
    exact (told.after_checkCutter (by omega) _).waits
  · rw [kept.cutterParts]
    refine (torqueRecords_cutter _ _).trans (List.map_congr_left fun r _ => ?_)
    cases r.cutter.maxTorque with
    | none => rfl
    | some m => rfl
  · intro waits
    rw [checkCutter_waits _ _ waits]
    exact ⟨rfl, rfl, rfl, rfl, rfl, rfl, rfl⟩

/-- Settles O38: one case of the transition check after the other. -/
theorem cutterSampleMovesTheCutterState : Obligations.CutterSampleMovesTheCutterState := by
  intro address sequence p s heard law
  have run := exec_cutterSample_heard address sequence p s heard
  have found : RateLaw (cutterFound sequence p s) := law
  refine ⟨fun hat => ⟨fun below => ?_, fun atTrip => ?_⟩, fun running still => ?_, fun stopping still slow => ?_⟩
  · obtain ⟨chm, abu, fbu, derated⟩ :=
      judgeTorque_blocks (natAt p 3 2) (cutterRuns (cutterFound sequence p s)) found
    refine ⟨_, run, ?_⟩
    rw [checkCutter_belowTrip (readCutterSample p) (cutterFound sequence p s) hat below, readCutterSample, chm]
    exact ⟨rfl, rfl, rfl, rfl, abu, derated, fbu⟩
  · obtain ⟨chm, cutter, phase, sent, entered⟩ := tripCutter_blocks (cutterRuns (cutterFound sequence p s)) found
    refine ⟨_, run, ?_⟩
    rw [checkCutter_trips (readCutterSample p) (cutterFound sequence p s) hat atTrip, chm]
    exact ⟨rfl, rfl, rfl, cutter, phase, sent, entered⟩
  · obtain ⟨chm, abu, fbu, item, event⟩ := cutterDropOut_blocks (natAt p 1 2) (cutterFound sequence p s) found
    refine ⟨_, run, ?_⟩
    rw [checkCutter_dropsOut (readCutterSample p) (cutterFound sequence p s) running still, readCutterSample, chm]
    exact ⟨rfl, rfl, rfl, rfl, item, abu, event, fbu⟩
  · obtain ⟨abu, fbu, chm⟩ :=
      postCutter_blocks (.rate 0) ((cutterFound sequence p s).onChm fun c => { c with state := .stopped }) found
    refine ⟨_, run, ?_⟩
    rw [checkCutter_rests (readCutterSample p) (cutterFound sequence p s) stopping still slow, chm]
    exact ⟨rfl, rfl, abu, fbu⟩

/-- Settles O39: each expiry is its block's own operation, whose event is placed as `queueEvent_eq` says and whose flags
are those of `anyFlag_eq`. -/
theorem expiriesOfTheOtherTimers : Obligations.ExpiriesOfTheOtherTimers := by
  intro g l s
  have settled : ∀ {t u : State}, t = u →
      (.next (settle t) : Host.Outcome State Fault Refusal) = .next (settle u) := by
    rintro t _ rfl; rfl
  refine ⟨settled (t := startTimerExpires s) ?start, settled (t := moveTimerExpires g s) ?move, rfl, rfl,
    fun stopped => settled (t := cabinSilenceExpires s) ?silent,
    fun running law => ⟨_, rfl, cabinSilenceExpires_running s running law⟩, settled (t := pacingExpires s) ?pacing⟩
  case start =>
    rw [startTimerExpires, queueEvent_eq]
    rfl
  case move =>
    rw [moveTimerExpires, queueEvent_eq]
    rfl
  case silent => simp [cabinSilenceExpires, stopped]
  case pacing =>
    rw [pacingExpires, anyFlag_eq]
    rfl

end Sys2Proof.Machine
end

section
/-! SUPPORT. Group orders that wait in the command queue, and what an operation leaves of everything that the laws of
withdrawal and of locks look at (R58, R60, R63, R66, R72). -/

namespace Sys2Proof.Machine

/-! ## Waiting items (R137) -/

/-- An order of a group waits exactly when some group order item of it does. -/
theorem orderWaits_iff (s : State) (g : Fin 7) :
    orderWaits s g = true ↔ ∃ o t, ItemWaits (.groupOrder g o t) s := by
  simp only [orderWaits, List.any_eq_true, beq_iff_eq]
  constructor
  · rintro ⟨i, hi, hk⟩
    cases hc : i.command <;> simp only [hc, keyOf, reduceCtorEq, ItemKey.groupOrder.injEq] at hk
    subst hk
    exact ⟨_, _, i, hi, hc⟩
  · rintro ⟨o, t, i, hi, hc⟩
    exact ⟨i, hi, by rw [hc]; rfl⟩

/-- A RETRACT of a group waits, whatever its trim. -/
theorem retractWaits_iff (s : State) (g : Fin 7) :
    retractWaits s g = true ↔ ∃ t, ItemWaits (.groupOrder g .retract t) s := by
  simp only [retractWaits, List.any_eq_true]
  constructor
  · rintro ⟨i, hi, hk⟩
    split at hk
    · rename_i k t hc
      obtain rfl := beq_iff_eq.mp hk
      exact ⟨t, i, hi, hc⟩
    · exact absurd hk (by simp)
  · rintro ⟨t, i, hi, hc⟩
    exact ⟨i, hi, by simp [hc]⟩

/-- The only item of a placed item's key is that item (R137). -/
theorem mem_placedQueue_same (c : Command) (q : List Item) (i : Item) (hi : i ∈ placedQueue c q)
    (hk : keyOf i.command = keyOf c) : i.command = c := by
  unfold placedQueue at hi
  split at hi
  · obtain ⟨j, -, rfl⟩ := List.mem_map.mp hi
    by_cases hj : hasKey (keyOf c) j = true
    · simp [hj]
    · rw [if_neg hj] at hk
      exact absurd (beq_iff_eq.mpr hk) hj
  · rename_i unplaced
    rcases List.mem_append.mp hi with hq | hn
    · exact absurd (List.any_eq_true (p := hasKey (keyOf c)).mpr ⟨i, hq, beq_iff_eq.mpr hk⟩) unplaced
    · rw [List.mem_singleton.mp hn]

/-- What waits after an item is placed: the item itself under its key, and every item of another key that waited. -/
theorem itemWaits_placeItem (c d : Command) (s : State) :
    ItemWaits d (placeItem c s) ↔ if keyOf d = keyOf c then d = c else ItemWaits d s := by
  split
  · rename_i same
    constructor
    · rintro ⟨i, hi, rfl⟩
      exact mem_placedQueue_same c s.mlp.queue i hi same
    · rintro rfl
      exact placedQueue_mem d s.mlp.queue
  · rename_i other
    constructor
    · rintro ⟨i, hi, rfl⟩
      exact ⟨i, (mem_placedQueue_other c s.mlp.queue i other).mp hi, rfl⟩
    · rintro ⟨i, hi, rfl⟩
      exact ⟨i, (mem_placedQueue_other c s.mlp.queue i other).mpr hi, rfl⟩

/-- What waits depends on the command queue alone. -/
theorem itemWaits_congr {s u : State} (h : u.mlp.queue = s.mlp.queue) (d : Command) : ItemWaits d u ↔ ItemWaits d s := by
  unfold ItemWaits
  rw [h]

/-! ## What an operation leaves of the build's records and orders -/

/-- The groups as the laws see them, the waiting group orders, the cycle, the build tables, and the two ports as far as
requests and frames go, are as they were. -/
structure OrdersKept (s u : State) : Prop where
  state : ∀ g, (groupOf u g).state = (groupOf s g).state
  lock : ∀ g, (groupOf u g).lock = (groupOf s g).lock
  queued : ∀ g, (groupOf u g).orderQueued = (groupOf s g).orderQueued
  orders : ∀ g o t, ItemWaits (.groupOrder g o t) u ↔ ItemWaits (.groupOrder g o t) s
  keys : KeysOnce s → KeysOnce u
  phase : u.abu.phase = s.abu.phase
  resumePhase : u.abu.resumePhase = s.abu.resumePhase
  haltCause : u.abu.haltCause = s.abu.haltCause
  buildOrder : u.abu.buildOrder = s.abu.buildOrder
  expected : u.abu.expected = s.abu.expected
  sectors : u.abu.sectors = s.abu.sectors
  tx : u.mlp.tx = s.mlp.tx
  requests : u.clp.rxQueue = s.clp.rxQueue

/-- Beside these, what the holding check reads is as it was (R65). -/
structure BuildKept (s u : State) : Prop extends OrdersKept s u where
  valid : u.fbu.valid = s.fbu.valid
  pw : u.fbu.pw = s.fbu.pw
  thrust : u.cfb.thrust = s.cfb.thrust
  aFace : u.cfb.aFace = s.cfb.aFace

/-- One operation after the other. -/
theorem OrdersKept.trans {s t u : State} (h : OrdersKept s t) (k : OrdersKept t u) : OrdersKept s u where
  state g := (k.state g).trans (h.state g)
  lock g := (k.lock g).trans (h.lock g)
  queued g := (k.queued g).trans (h.queued g)
  orders g o t := (k.orders g o t).trans (h.orders g o t)
  keys x := k.keys (h.keys x)
  phase := k.phase.trans h.phase
  resumePhase := k.resumePhase.trans h.resumePhase
  haltCause := k.haltCause.trans h.haltCause
  buildOrder := k.buildOrder.trans h.buildOrder
  expected := k.expected.trans h.expected
  sectors := k.sectors.trans h.sectors
  tx := k.tx.trans h.tx
  requests := k.requests.trans h.requests

/-- An operation that changes neither the ABU, nor the command queue, nor the frame on the line, nor the receive queue. -/
theorem OrdersKept.of_same {s u : State} (same : (u.abu, u.mlp.queue, u.mlp.tx, u.clp.rxQueue) =
    (s.abu, s.mlp.queue, s.mlp.tx, s.clp.rxQueue)) : OrdersKept s u := by
  simp only [Prod.mk.injEq] at same
  obtain ⟨abu, queue, tx, requests⟩ := same
  exact {
    state := fun g => by rw [groupOf, abu, groupOf]
    lock := fun g => by rw [groupOf, abu, groupOf]
    queued := fun g => by rw [groupOf, abu, groupOf]
    orders := fun _ _ _ => itemWaits_congr queue _
    keys := fun h => by rw [KeysOnce, queuedKeys, queue]; exact h
    phase := by rw [abu]
    resumePhase := by rw [abu]
    haltCause := by rw [abu]
    buildOrder := by rw [abu]
    expected := by rw [abu]
    sectors := by rw [abu]
    tx := tx
    requests := requests }

namespace BuildKept

variable {s t u : State}

/-- One operation after the other. -/
theorem trans (h : BuildKept s t) (k : BuildKept t u) : BuildKept s u where
  toOrdersKept := h.toOrdersKept.trans k.toOrdersKept
  valid := k.valid.trans h.valid
  pw := k.pw.trans h.pw
  thrust := k.thrust.trans h.thrust
  aFace := k.aFace.trans h.aFace

/-- One operation before the other. -/
theorem after (k : BuildKept t u) (h : BuildKept s t) : BuildKept s u := h.trans k

/-- An operation on the blocks that the build does not look at. -/
theorem of_same (same : ((u.abu, u.mlp.queue, u.mlp.tx, u.clp.rxQueue),
      u.fbu.valid, u.fbu.pw, u.cfb.thrust, u.cfb.aFace) =
    ((s.abu, s.mlp.queue, s.mlp.tx, s.clp.rxQueue), s.fbu.valid, s.fbu.pw, s.cfb.thrust, s.cfb.aFace)) :
    BuildKept s u := by
  obtain ⟨orders, face⟩ := Prod.mk.inj same
  simp only [Prod.mk.injEq] at face
  obtain ⟨valid, pw, thrust, aFace⟩ := face
  exact { toOrdersKept := .of_same orders, valid, pw, thrust, aFace }

/-- Nothing done. -/
theorem refl (s : State) : BuildKept s s := of_same (by rfl)

/-- A change of the FBU beside the face's validity and P_w. -/
theorem onFbu (f : Fbu → Fbu) (s : State) (valid : (f s.fbu).valid = s.fbu.valid) (pw : (f s.fbu).pw = s.fbu.pw) :
    BuildKept s (s.onFbu f) where
  toOrdersKept := .of_same rfl
  valid := valid
  pw := pw
  thrust := rfl
  aFace := rfl

/-- A change of the settings beside the thrust settings and the face area. -/
theorem onCfb (f : Cfb → Cfb) (s : State) (thrust : (f s.cfb).thrust = s.cfb.thrust)
    (aFace : (f s.cfb).aFace = s.cfb.aFace) : BuildKept s (s.onCfb f) where
  toOrdersKept := .of_same rfl
  valid := rfl
  pw := rfl
  thrust := thrust
  aFace := aFace

/-- A change of the MLP beside the command queue and the transmitter. -/
theorem onMlp (f : Mlp → Mlp) (s : State) (queue : (f s.mlp).queue = s.mlp.queue)
    (tx : (f s.mlp).tx = s.mlp.tx) : BuildKept s (s.onMlp f) :=
  of_same (by rw [State.onMlp_mlp, queue, tx]; rfl)

/-! ### The shared operations -/

/-- An event. -/
theorem queueEventFor (n : Nat) (b : EventBody) (s : State) : BuildKept s (queueEventFor n b s) := by
  refine of_same ?_
  rw [queueEventFor_eq]
  unfold withEvent
  split <;> rfl

/-- An event whose rule names no ring number. -/
theorem queueEvent (b : EventBody) (s : State) : BuildKept s (queueEvent b s) := queueEventFor _ b s

/-- An event, if there is one. -/
theorem queueIf (e : Option EventBody) (s : State) : BuildKept s (queueIf e s) := by
  cases e with
  | none => exact refl s
  | some b => exact queueEvent b s

/-- An item other than a group order. -/
theorem placeItem (c : Command) (hc : ∀ g, keyOf c ≠ .groupOrder g) (s : State) : BuildKept s (placeItem c s) where
  toOrdersKept := { OrdersKept.of_same (s := s) (u := s) rfl with
    orders := fun g o t => by
      rw [itemWaits_placeItem, if_neg fun e => hc g e.symm]
    keys := placedQueue_nodup c s.mlp.queue }
  valid := rfl
  pw := rfl
  thrust := rfl
  aFace := rfl

/-- A queue that takes an item other than a group order only when it differs from what was sent. -/
theorem ofQueueAfter (changed : Bool) (c : Command) (hc : ∀ g, keyOf c ≠ .groupOrder g) (s : State) :
    BuildKept s { s with mlp := queueAfter changed c s } := by
  cases changed with
  | false => exact refl s
  | true => exact placeItem c hc s

/-- A part of a record made final. -/
theorem makeFinal (n : Nat) (p : FinalFlag) (cut : Bool) (s : State) : BuildKept s (makeFinal n p cut s) := by
  rw [makeFinal_frame]
  exact of_same (by rfl)

/-- A change of the rates, of the stroke's positions and of the counts in the ABU. -/
theorem of_figures {s u : State} (abu : u.abu = { s.abu with
      furtherCauses := u.abu.furtherCauses, advanceRef := u.abu.advanceRef, strokeStart := u.abu.strokeStart
      strokeTarget := u.abu.strokeTarget, caps := u.abu.caps, effective := u.abu.effective
      rateSent := u.abu.rateSent, held := u.abu.held, suspensions := u.abu.suspensions })
    (rest : BuildKept s { u with abu := s.abu }) : BuildKept s u where
  state g := by rw [← rest.state g, groupOf, abu]; rfl
  lock g := by rw [← rest.lock g, groupOf, abu]; rfl
  queued g := by rw [← rest.queued g, groupOf, abu]; rfl
  orders := rest.orders
  keys := rest.keys
  phase := by rw [abu]
  resumePhase := by rw [abu]
  haltCause := by rw [abu]
  buildOrder := by rw [abu]
  expected := by rw [abu]
  sectors := by rw [abu]
  tx := rest.tx
  requests := rest.requests
  valid := rest.valid
  pw := rest.pw
  thrust := rest.thrust
  aFace := rest.aFace

/-- A recomputation of the rate. -/
theorem recomputeRate (s : State) : BuildKept s (recomputeRate s) := by
  rw [recomputeRate_eq]
  exact of_figures rfl ((ofQueueAfter _ (.advanceRate _) (by simp [keyOf]) s).trans (of_same (by rfl)))

/-- A posting to the rate cap table. -/
theorem postCaps (f : Caps → Caps) (s : State) : BuildKept s (postCaps f s) := by
  unfold Machine.postCaps
  split
  · exact refl s
  · exact (recomputeRate _).after (of_figures rfl (of_same (by rfl)))

/-- The MUCK entry. -/
theorem postMuck (s : State) : BuildKept s (postMuck s) := postCaps (fun c => { c with muck := muckEntry s }) s

/-- A posting of the PLAN entry. -/
theorem postPlan (rate : Nat) (s : State) : BuildKept s (postPlan rate s) := by
  unfold Machine.postPlan
  split
  · exact refl s
  · exact (postMuck _).after ((recomputeRate _).after (of_figures rfl (of_same (by rfl))))

end BuildKept

end Sys2Proof.Machine
end

section
/-! SUPPORT. The operations of the blocks that leave the build's records and orders as they were. -/

namespace Sys2Proof.Machine

namespace BuildKept

/-- A change of a ring's record. -/
theorem onRecord (n : Nat) (f : RingRecord → RingRecord) (s : State) : BuildKept s (onRecord n f s) := of_same (by rfl)

/-! ### The cutterhead (R47 to R56) -/

/-- A drive order. -/
theorem driveOrder (o : DriveOrder) (v : Nat) (s : State) : BuildKept s (driveOrder o v s) :=
  (placeItem (.driveOrder o v s.chm.direction) (by simp [keyOf]) _).after (of_same (by rfl))

/-- The direction chosen at START. -/
theorem setDirection (s : State) : BuildKept s (setDirection s) := of_same (by rfl)

/-- The start of the cutterhead. -/
theorem startCutter (s : State) : BuildKept s (startCutter s) :=
  .after (of_same (by rfl)) ((postCaps (fun c => { c with cutter := .rate 0 }) _).after (driveOrder _ _ s))

/-- The CHM at entry into STROKE_END. -/
theorem cutterStrokeEnd (s : State) : BuildKept s (cutterStrokeEnd s) := by
  unfold Machine.cutterStrokeEnd
  split
  · exact .after (of_same (by rfl)) ((postCaps (fun c => { c with cutter := .rate 0 }) _).after (driveOrder _ _ s))
  · exact refl s

/-- The CHM at entry into HALTED. -/
theorem cutterHalt (s : State) : BuildKept s (cutterHalt s) := by
  unfold Machine.cutterHalt
  split
  · exact .after (of_same (by rfl)) ((postCaps (fun c => { c with cutter := .rate 0 }) _).after (of_same (by rfl)))
  · exact refl s

/-- The readings of a CUTTER sample stored, the roll judged, the torque posted. -/
theorem sampledCutter (x : CutterSample) (s : State) : BuildKept s (sampledCutter x s) := by
  refine of_same ?_
  unfold Machine.sampledCutter toldClp
  split
  · rfl
  · unfold withEvent
    split <;> rfl

/-- A torque judged below the trip level. -/
theorem judgeTorque (t : Nat) (s : State) : BuildKept s (judgeTorque t s) := by
  have posted (v : Cap) (b : Option TorqueBand) :
      BuildKept s ((postCutter v s).onChm fun c => { c with band := b }) :=
    .after (of_same (by rfl)) (postCaps (fun c => { c with cutter := v }) s)
  unfold Machine.judgeTorque
  split
  · exact postCaps _ s
  · split
    · exact posted _ _
    · split
      · exact posted _ _
      · exact (queueEvent _ _).after (posted _ _)

/-- A drive that drops out. -/
theorem cutterDropOut (v : Nat) (s : State) : BuildKept s (cutterDropOut v s) :=
  (queueEvent _ _).after 
    ((postCaps (fun c => { c with cutter := .rate 0 }) _).after ((driveOrder _ _ _).after (of_same (by rfl))))

/-- The speed command after CUTTER MANUAL or CUTTER AUTO. -/
theorem formCutterSpeed (s : State) : BuildKept s (formCutterSpeed s) := by
  unfold Machine.formCutterSpeed
  split
  · exact driveOrder _ _ s
  · exact refl s

/-- The cutterhead tripped, before its safe stop. -/
theorem cutterTripped (s : State) : BuildKept s (cutterTripped s) :=
  (postCaps (fun c => { c with cutter := .rate 0 }) _).after (of_same (by rfl))

/-! ### The screw and the gate (R39 to R44) -/

/-- The screw command. -/
theorem formScrew (s : State) : BuildKept s (formScrew s) := by
  rw [formScrew_eq]
  exact .after (of_same (by rfl)) (ofQueueAfter _ (.screwSpeed _) (by simp [keyOf]) s)

/-- The gate order. -/
theorem orderGate (g : Gate) (s : State) : BuildKept s (orderGate g s) := by
  rw [orderGate_eq]
  exact .after (of_same (by rfl)) (ofQueueAfter _ (.screwGate _) (by simp [keyOf]) s)

/-- The screw at entry into STROKE_END. -/
theorem screwStrokeEnd (s : State) : BuildKept s (screwStrokeEnd s) :=
  (orderGate _ _).after ((formScrew _).after (of_same (by rfl)))

/-! ### Groups (R59, R61) -/

/-- A change of the groups' positions and move timers. -/
theorem of_groups {s u : State} (abu : u.abu = { s.abu with groups := u.abu.groups })
    (state : ∀ g, (groupOf u g).state = (groupOf s g).state) (lock : ∀ g, (groupOf u g).lock = (groupOf s g).lock)
    (queued : ∀ g, (groupOf u g).orderQueued = (groupOf s g).orderQueued)
    (rest : BuildKept s { u with abu := s.abu }) : BuildKept s u where
  state := state
  lock := lock
  queued := queued
  orders := rest.orders
  keys := rest.keys
  phase := by rw [abu]
  resumePhase := by rw [abu]
  haltCause := by rw [abu]
  buildOrder := by rw [abu]
  expected := by rw [abu]
  sectors := by rw [abu]
  tx := rest.tx
  requests := rest.requests
  valid := rest.valid
  pw := rest.pw
  thrust := rest.thrust
  aFace := rest.aFace

/-- A change of one group's position, recover pending flag or move timer. -/
theorem onGroup (g : Fin 7) (f : Group → Group) (hs : ∀ x, (f x).state = x.state) (hl : ∀ x, (f x).lock = x.lock)
    (hq : ∀ x, (f x).orderQueued = x.orderQueued) (s : State) : BuildKept s (onGroup g f s) := by
  refine of_groups rfl ?_ ?_ ?_ (of_same (by rfl)) <;>
    (intro k; rw [groupOf_onGroup]; split)
  · rw [hs]; simp [*]
  · rfl
  · rw [hl]; simp [*]
  · rfl
  · rw [hq]; simp [*]
  · rfl

/-- The reported positions stored. -/
theorem storePositions (x : ThrustSample) (s : State) : BuildKept s (storePositions x s) := by
  have stored (g : Fin 7) :
      groupOf (Machine.storePositions x s) g = { groupOf s g with position := some x.groups[g] } := by
    simp [groupOf, Machine.storePositions, State.onAbu, mapTable]
  exact of_groups rfl (fun g => by rw [stored]) (fun g => by rw [stored]) (fun g => by rw [stored]) (of_same (by rfl))

/-- The expiry of a move timer. -/
theorem moveTimerExpires (g : Fin 7) (s : State) : BuildKept s (moveTimerExpires g s) := by
  unfold Machine.moveTimerExpires
  split
  · exact (queueEvent _ _).after
      (onGroup g (fun x => { x with moveTimer := .expired }) (fun _ => rfl) (fun _ => rfl) (fun _ => rfl) s)
  · exact refl s

/-! ### Grout (R82 to R100) -/

/-- The GROUT entry. -/
theorem postGrout (s : State) : BuildKept s (postGrout s) := by
  have posted (v : Cap) (f : Gru → Gru) : BuildKept s ((postGroutCap v s).onGru f) :=
    .after (of_same (by rfl)) (postCaps (fun c => { c with grout := v }) s)
  unfold Machine.postGrout
  split
  · simp only
    split
    · exact posted _ _
    · exact (queueEvent _ _).after (posted _ _)
  · simp only
    split
    · exact (queueEvent _ _).after (posted _ _)
    · exact posted _ _

/-- The effective shares. -/
theorem recomputeShares (s : State) : BuildKept s (recomputeShares s) := (postGrout _).after (of_same (by rfl))

/-- A ring's grout part finished. -/
theorem finishGrout (ring demand delivered : Nat) (cut : Bool) (s : State) :
    BuildKept s (finishGrout ring demand delivered cut s) :=
  (makeFinal _ _ _ _).after (of_same (by rfl))

/-- The end of a stroke of a finishing ring. -/
theorem endFinishingStroke (ring credit : Nat) (s : State) : BuildKept s (endFinishingStroke ring credit s) := by
  unfold Machine.endFinishingStroke
  split
  · exact refl s
  · split
    · exact (finishGrout _ _ _ _ _).after (of_same (by rfl))
    · exact of_same (by rfl)

/-- The stroke in flight abandoned. -/
theorem abandonStroke (l : Fin 6) (s : State) : BuildKept s (abandonStroke l s) := by
  unfold Machine.abandonStroke
  split
  · exact refl s
  · simp only
    split
    · exact of_same (by rfl)
    · exact (endFinishingStroke _ _ _).after (of_same (by rfl))

/-- The issue check of a line. -/
theorem issueCheck (l : Fin 6) (s : State) : BuildKept s (issueCheck l s) := by
  unfold Machine.issueCheck
  split
  · split
    · exact refl s
    · exact (placeItem (.pumpOrder l (some _)) (by simp [keyOf]) _).after (of_same (by rfl))
  · exact refl s

/-- One operation on each entry of a list in turn. -/
theorem foldl {α : Type} (f : State → α → State) (hf : ∀ s a, BuildKept s (f s a)) (xs : List α) (s : State) :
    BuildKept s (xs.foldl f s) := by
  induction xs generalizing s with
  | nil => exact refl s
  | cons x xs ih => exact (hf s x).trans (ih _)

/-- The issue checks of all lines. -/
theorem issueAll (s : State) : BuildKept s (issueAll s) := foldl _ (fun t l => issueCheck l t) _ s

/-- The issue checks of the lines that an event changed. -/
theorem issueChanged (before s : State) : BuildKept s (issueChanged before s) := by
  refine foldl _ (fun t l => ?_) _ s
  split
  · exact refl t
  · exact issueCheck l t

/-- Entry into BLOCKED. -/
theorem blockLine (l : Fin 6) (c : BlockCause) (s : State) : BuildKept s (blockLine l c s) :=
  (recomputeShares _).after ((queueEvent _ _).after
    (.after (of_same (by rfl)) ((placeItem (.pumpOrder l none) (by simp [keyOf]) _).after ((abandonStroke l _).after (of_same (by rfl))))))

/-- Entry into BLOCKED with the issue checks that follow. -/
theorem blockAndCheck (l : Fin 6) (c : BlockCause) (s : State) : BuildKept s (blockAndCheck l c s) :=
  (issueChanged _ _).after (blockLine l c s)

/-- The GRU at an advance increment. -/
theorem groutAdvance (mm : Nat) (s : State) : BuildKept s (groutAdvance mm s) :=
  (postGrout _).after ((issueAll _).after (of_same (by rfl)))

/-- The credit of a GROUT stroke. -/
theorem creditStroke (l : Fin 6) (k : Stroke) (efficiency : Nat) (s : State) :
    BuildKept s (creditStroke l k efficiency s) := by
  unfold Machine.creditStroke
  cases k.ring with
  | none => exact of_same (by rfl)
  | some r =>
    simp only
    split
    · exact of_same (by rfl)
    · split
      · exact (endFinishingStroke _ _ _).after (of_same (by rfl))
      · exact refl s

/-- The end of a flush. -/
theorem endFlush (l : Fin 6) (s : State) : BuildKept s (endFlush l s) := by
  unfold Machine.endFlush
  split
  · split
    · exact (queueEvent _ _).after (of_same (by rfl))
    · exact blockAndCheck l _ s
  · exact blockAndCheck l _ s

/-- The end of a WATER stroke. -/
theorem endWater (l : Fin 6) (k : Stroke) (s : State) : BuildKept s (endWater l k s) := by
  have counted : BuildKept s (countWater k s) := by
    unfold countWater
    split
    · exact refl s
    · exact endFinishingStroke _ _ s
  unfold Machine.endWater
  simp only
  split
  · exact (endFlush l _).after counted
  · exact counted

/-- A done report. -/
theorem doneReport (l : Fin 6) (kind : Option StrokeKind) (duration efficiency : Nat) (s : State) :
    BuildKept s (doneReport l kind duration efficiency s) := by
  unfold Machine.doneReport
  split
  · exact refl s
  · rename_i k _
    split
    · exact refl s
    · split
      · exact blockAndCheck l _ s
      · have credited (f : Line → Line) : BuildKept s
            (match k.kind with
              | .grout => Machine.creditStroke l k efficiency (onLine l f s)
              | .water => Machine.endWater l k (onLine l f s)) := by
          cases k.kind with
          | grout => exact (creditStroke _ _ _ _).after (of_same (by rfl))
          | water => exact (endWater _ _ _).after (of_same (by rfl))
        simp only
        split
        · exact (postGrout _).after ((issueCheck l _).after (credited _))
        · exact (issueCheck l _).after (credited _)

/-- The expiry of a stroke timer. -/
theorem strokeTimerExpires (l : Fin 6) (s : State) : BuildKept s (strokeTimerExpires l s) := by
  unfold Machine.strokeTimerExpires
  split
  · exact blockAndCheck l _ s
  · exact refl s

/-- The expiry of a period timer. -/
theorem periodTimerExpires (l : Fin 6) (s : State) : BuildKept s (periodTimerExpires l s) := by
  unfold Machine.periodTimerExpires
  split
  · exact (issueCheck l _).after (of_same (by rfl))
  · exact refl s

/-- The pressure of a GROUT sample judged. -/
theorem judgePressure (l : Fin 6) (p : Nat) (s : State) : BuildKept s (judgePressure l p s) := by
  unfold Machine.judgePressure
  simp only
  split
  · exact blockAndCheck l _ s
  · split
    · exact (queueEvent _ _).after (of_same (by rfl))
    · split
      · refine (queueEvent _ _).after ?_
        split <;> exact of_same (by rfl)
      · exact refl s

/-- A GROUT sample. -/
theorem groutSample (l : Fin 6) (p : Nat) (s : State) : BuildKept s (groutSample l p s) :=
  (issueCheck l _).after ((judgePressure l p _).after (of_same (by rfl)))

/-- A change of a GROUT node's state. -/
theorem groutNodeChanged (l : Fin 6) (st : NodeState) (s : State) : BuildKept s (groutNodeChanged l st s) := by
  unfold Machine.groutNodeChanged
  cases st with
  | silent | fault =>
    simp only
    split
    · exact refl s
    · exact blockAndCheck l _ s
  | live => exact issueCheck l s
  | unseen => exact refl s

/-- The grout ring held is left. -/
theorem leaveGroutRing (s : State) : BuildKept s (leaveGroutRing s) := by
  unfold Machine.leaveGroutRing
  split
  · exact refl s
  · split
    · exact finishGrout _ _ _ _ s
    · exact of_same (by rfl)

/-- The grout ring changes at START. -/
theorem changeGroutRing (ring : Nat) (s : State) : BuildKept s (changeGroutRing ring s) :=
  (postGrout _).after (.after (of_same (by rfl)) (leaveGroutRing s))

/-- The pump orders of RESTART. -/
theorem stopPumps (s : State) : BuildKept s (stopPumps s) := by
  refine foldl _ (fun t l => ?_) _ s
  split
  · exact placeItem (.pumpOrder l none) (by simp [keyOf]) t
  · exact refl t

/-- RESTART of the GRU. -/
theorem restartGrout (s : State) : BuildKept s (restartGrout s) := by
  have finished : BuildKept s
      (s.gru.finishing.foldl (fun t e => Machine.finishGrout e.ring e.demand e.delivered true t) (Machine.stopPumps s)) :=
    (foldl _ (fun t (e : Finishing) => finishGrout e.ring e.demand e.delivered true t) _ _).after (stopPumps s)
  unfold Machine.restartGrout
  simp only
  split
  · exact .after (of_same (by rfl)) finished
  · exact .after (of_same (by rfl)) ((finishGrout _ _ _ _ _).after finished)

/-! ### Face evaluations (R31 to R40) -/

/-- Stages 4 and 5 with their postings. -/
theorem classifyFace (s : State) : BuildKept s (classifyFace s) := by
  have counted (b : Option FaceClass) (c : FaceClass) (t : State) : BuildKept t (countFaceEntry b c t) := by
    unfold countFaceEntry
    split
    · cases c <;> exact of_same (by rfl)
    · exact refl t
  exact (counted _ _ _).after ((queueIf _ _).after
    ((postCaps (fun c => { c with face := faceEntry _ }) _).after (of_same (by rfl))))

/-- Stage 6. -/
theorem stepTrim (s : State) : BuildKept s (stepTrim s) := by
  unfold Machine.stepTrim
  split
  · exact of_same (by rfl)
  · exact refl s

/-- The hand-off of P_w to the record. -/
theorem postPw (s : State) : BuildKept s (postPw s) := by
  unfold Machine.postPw
  split
  · exact of_same (by rfl)
  · exact refl s

/-- A face evaluation after its measurement. -/
theorem evaluateFace (x : FaceSample) (s : State) : BuildKept (measureFace x s) (evaluateFace x s) :=
  (postPw _).after ((formScrew _).after ((stepTrim _).after (classifyFace _)))

/-! ### Muck (R105 to R114) -/

/-- An opening made. -/
theorem makeOpening (s : State) : BuildKept s (makeOpening (makeRoom s)) := by
  unfold makeRoom
  split <;> exact of_same (by rfl)

/-- An opening requested. -/
theorem requestOpening (s : State) : BuildKept s (requestOpening s) := by
  unfold Machine.requestOpening
  split
  · exact makeOpening s
  · exact (postMuck _).after ((queueEvent _ _).after (of_same (by rfl)))

/-- The waiting opening served. -/
theorem serveOpening (s : State) : BuildKept s (serveOpening s) := by
  unfold Machine.serveOpening
  split
  · exact (postMuck _).after (.after (of_same (by rfl)) (makeOpening s))
  · exact refl s

/-- The response to an OVER verdict. -/
theorem overVerdict (x : Slice) (s : State) : BuildKept s (overVerdict x s) := by
  unfold Machine.overVerdict
  simp only
  split
  · exact of_same (by rfl)
  · split
    · exact .after (of_same (by rfl)) ((postMuck _).after ((queueEventFor _ _ _).after (of_same (by rfl))))
    · exact of_same (by rfl)

/-- The response to an OK verdict. -/
theorem okVerdict (x : Slice) (s : State) : BuildKept s (okVerdict x s) := by
  unfold Machine.okVerdict
  simp only
  split
  · exact (postMuck _).after ((queueEventFor _ _ _).after (of_same (by rfl)))
  · exact of_same (by rfl)

/-- The response to a verdict. -/
theorem stepRuns (x : Slice) (v : Verdict) (s : State) : BuildKept s (stepRuns x v s) := by
  unfold Machine.stepRuns
  split
  · exact overVerdict x s
  · exact okVerdict x s
  · exact (queueEventFor _ _ _).after (of_same (by rfl))
  · exact refl s

/-- A ring's muck part written. -/
theorem writeMuckPart (ring : Nat) (s : State) : BuildKept s (writeMuckPart ring s) := by
  unfold Machine.writeMuckPart
  split
  · exact .after (of_same (by rfl)) (makeFinal _ _ _ s)
  · exact refl s

/-- A slice made FINAL. -/
theorem finalizeSlice (x : Slice) (s : State) : BuildKept s (finalizeSlice x s) := by
  unfold Machine.finalizeSlice
  split
  · exact refl s
  · exact (serveOpening _).after ((writeMuckPart _ _).after ((stepRuns _ _ _).after (of_same (by rfl))))

/-- A BELT sample. -/
theorem beltSample (travel mass : Int) (s : State) : BuildKept s (beltSample travel mass s) := by
  have credited (kg : Nat) (t : State) : BuildKept t (creditMass kg t) := by
    unfold creditMass
    split
    · exact of_same (by rfl)
    · split
      · exact of_same (by rfl)
      · exact (foldl _ (fun t x => finalizeSlice x t) _ _).after (of_same (by rfl))
  have checked (t : State) : BuildKept t (checkTail t) := by
    unfold checkTail
    split
    · exact refl t
    · split
      · simp only
        split
        · exact of_same (by rfl)
        · exact .after (of_same (by rfl)) (finalizeSlice _ t)
      · exact refl t
  exact (checked _).after ((credited _ _).after (of_same (by rfl)))

/-- The MBU at START. -/
theorem muckStart (ring : Nat) (s : State) : BuildKept s (muckStart ring s) := (requestOpening _).after (of_same (by rfl))

/-- The MBU at an advance increment. -/
theorem muckAdvance (mm : Nat) (s : State) : BuildKept s (muckAdvance mm s) := by
  unfold Machine.muckAdvance
  simp only
  split
  · exact (requestOpening _).after (of_same (by rfl))
  · exact of_same (by rfl)

/-- The MBU at entry into STROKE_END. -/
theorem muckStrokeEnd (s : State) : BuildKept s (muckStrokeEnd s) := by
  have dropped : BuildKept s (dropOpening s) := by
    unfold dropOpening
    split
    · exact (postMuck _).after (of_same (by rfl))
    · exact refl s
  unfold Machine.muckStrokeEnd
  simp only
  split
  · exact .after (of_same (by rfl)) dropped
  · exact (writeMuckPart _ _).after (.after (of_same (by rfl)) dropped)

/-- RESTART of the MBU. -/
theorem restartMuck (s : State) : BuildKept s (restartMuck s) :=
  .after (of_same (by rfl)) (foldl _ (fun t r => makeFinal r .muck true t) _ s)

/-! ### Plans and phases (R3, R124) -/

/-- What the FBU and the GRU do at a change of phase. -/
theorem followPhase (s : State) : BuildKept s (followPhase s) := (issueAll _).after (formScrew s)

/-- The head plan made active. -/
theorem activateHead (s : State) : BuildKept s (activateHead s) := by
  unfold Machine.activateHead
  split
  · exact refl s
  · exact (postPlan _ _).after (of_same (by rfl))

/-- The next plan at closure. -/
theorem nextPlan (s : State) : BuildKept s (nextPlan s) := by
  unfold Machine.nextPlan
  split
  · exact activateHead s
  · exact refl s
  · split
    · exact (postPlan _ _).after ((queueEvent _ _).after (of_same (by rfl)))
    · exact (postPlan _ _).after ((queueEvent _ _).after (of_same (by rfl)))

/-- The record at closure. -/
theorem closeRecord (ring : Nat) (s : State) : BuildKept s (closeRecord ring s) :=
  (makeFinal _ _ _ _).after ((onRecord _ _ _).after ((queueEvent _ _).after (of_same (by rfl))))

end BuildKept

end Sys2Proof.Machine
end

section
/-! SUPPORT. The laws of withdrawal and of locks through what the blocks do beside them, through group orders other than
RETRACT, through a suspension of the build and through a safe stop (R58 to R63, R66, R72, R74). -/

namespace Sys2Proof.Machine

/-! ## The laws through operations beside them -/

namespace OrdersKept

variable {s u : State} (h : OrdersKept s u)

include h

/-- The waiting group orders of a group. -/
theorem orderWaits (g : Fin 7) : orderWaits u g = orderWaits s g := by
  rw [Bool.eq_iff_iff, orderWaits_iff, orderWaits_iff]
  simp only [h.orders]

/-- The waiting RETRACTs of a group. -/
theorem retractWaits (g : Fin 7) : retractWaits u g = retractWaits s g := by
  rw [Bool.eq_iff_iff, retractWaits_iff, retractWaits_iff]
  simp only [h.orders]

/-- The phase of the cycle. -/
theorem cyclePhase : cyclePhase u = cyclePhase s := by
  rw [Machine.cyclePhase, h.resumePhase, h.phase, Machine.cyclePhase]

/-- A sector's record. -/
theorem sectorOf (k : Fin 7) : sectorOf u k = sectorOf s k := by
  rw [Machine.sectorOf, h.sectors, Machine.sectorOf]

/-- The expected sector that R63 gives. -/
theorem expectedSector : expectedSector u = expectedSector s := by
  unfold Machine.expectedSector
  rw [h.buildOrder]
  simp only [h.sectorOf]

/-- The law of the order queued flags. -/
theorem orderLaw (law : OrderLaw s) : OrderLaw u := fun g => by rw [h.queued, h.orderWaits]; exact law g

/-- The law of HALTED. -/
theorem haltLaw (law : HaltLaw s) : HaltLaw u := by
  unfold HaltLaw
  rw [h.phase, h.resumePhase, h.haltCause]
  exact law

/-- The law of the expected sector. -/
theorem seatingLaw (law : SeatingLaw s) : SeatingLaw u := by
  unfold SeatingLaw
  simp only [h.cyclePhase, h.expected, h.expectedSector, h.sectorOf]
  exact law

/-- The law of locks. -/
theorem lockLaw (law : LockLaw s) : LockLaw u := by
  intro g
  rw [h.lock, h.state, h.retractWaits]
  exact law g

end OrdersKept

namespace BuildKept

variable {s u : State} (h : BuildKept s u)

include h

/-- What must hold of a group for its RETRACT to leave the device. -/
theorem mayWithdraw (g : Fin 7) : MayWithdraw u g ↔ MayWithdraw s g := by
  unfold MayWithdraw requiredForce holdingForceWithout holdingCount
  rw [h.valid, h.pw, h.thrust, h.aFace]
  simp only [h.state]

/-- The law of withdrawal. -/
theorem withdrawalLaw (law : WithdrawalLaw s) : WithdrawalLaw u := by
  intro g waits
  rw [h.retractWaits] at waits
  rw [h.phase, h.expected, h.state, h.mayWithdraw]
  exact law g waits

end BuildKept

/-- The laws of a build that every step keeps together. -/
structure BuildLaws (s : State) : Prop where
  keys : KeysOnce s
  orders : OrderLaw s
  halt : HaltLaw s
  seating : SeatingLaw s
  withdrawal : WithdrawalLaw s

/-- The laws through an operation beside them. -/
theorem BuildKept.buildLaws {s u : State} (h : BuildKept s u) (laws : BuildLaws s) : BuildLaws u where
  keys := h.keys laws.keys
  orders := h.orderLaw laws.orders
  halt := h.haltLaw laws.halt
  seating := h.seatingLaw laws.seating
  withdrawal := h.withdrawalLaw laws.withdrawal

/-- While no RETRACT waits, the law of withdrawal says nothing. -/
theorem BuildLaws.of_noRetract {s : State} (keys : KeysOnce s) (orders : OrderLaw s) (halt : HaltLaw s)
    (seating : SeatingLaw s) (none : ∀ g, retractWaits s g = false) : BuildLaws s where
  keys := keys
  orders := orders
  halt := halt
  seating := seating
  withdrawal g waits := absurd (none g) (by rw [waits]; simp)

/-- A RETRACT waits in BUILDING alone. -/
theorem BuildLaws.noRetract {s : State} (laws : BuildLaws s) (hp : s.abu.phase ≠ .building) (g : Fin 7) :
    retractWaits s g = false := by
  by_contra waits
  exact hp (laws.withdrawal g (Bool.not_eq_false _ ▸ waits)).1

/-- A RETRACT waits for a group that is not HOLDING. -/
theorem BuildLaws.noRetract_of_holding {s : State} (laws : BuildLaws s) (g : Fin 7)
    (hg : (groupOf s g).state = .holding) : retractWaits s g = false := by
  by_contra waits
  obtain ⟨-, -, state, -⟩ := laws.withdrawal g (Bool.not_eq_false _ ▸ waits)
  rw [hg] at state
  exact absurd state (by simp)

/-! ## Group orders (R60) -/

/-- What waits after a group is ordered. -/
theorem itemWaits_orderGroup_iff (g : Fin 7) (o : GroupOrder) (d : Command) (s : State) :
    ItemWaits d (orderGroup g o s) ↔
      if keyOf d = .groupOrder g then d = groupCommand s g o else ItemWaits d s :=
  itemWaits_placeItem (groupCommand s g o) d (onGroup g (orderedGroup s o) s)

/-- An ordered group has an order waiting. -/
theorem orderWaits_orderGroup (g k : Fin 7) (o : GroupOrder) (s : State) :
    orderWaits (orderGroup g o s) k = (decide (k = g) || orderWaits s k) := by
  rw [Bool.eq_iff_iff, Bool.or_eq_true, decide_eq_true_iff, orderWaits_iff, orderWaits_iff]
  simp only [itemWaits_orderGroup_iff, keyOf, ItemKey.groupOrder.injEq]
  by_cases e : k = g
  · subst e
    simp only [if_true, true_or, iff_true]
    exact ⟨o, _, rfl⟩
  · simp [e]

/-- A RETRACT waits for an ordered group when that is its order. -/
theorem retractWaits_orderGroup (g k : Fin 7) (o : GroupOrder) (s : State) :
    retractWaits (orderGroup g o s) k = if k = g then decide (o = .retract) else retractWaits s k := by
  rw [Bool.eq_iff_iff, retractWaits_iff]
  simp only [itemWaits_orderGroup_iff, keyOf, ItemKey.groupOrder.injEq]
  by_cases e : k = g
  · subst e
    simp only [if_true, groupCommand, Command.groupOrder.injEq, true_and, decide_eq_true_iff]
    exact ⟨fun ⟨_, h, _⟩ => h.symm, fun h => ⟨_, h.symm, rfl⟩⟩
  · simp only [if_neg e]
    exact (retractWaits_iff s k).symm

/-- The order queued flags of ordered groups say what waits. -/
theorem orderLaw_orderGroup (g : Fin 7) (o : GroupOrder) (s : State) (law : OrderLaw s) : OrderLaw (orderGroup g o s) := by
  intro k
  rw [orderWaits_orderGroup, groupOf_orderGroup]
  by_cases e : k = g
  · simp [e, orderedGroup]
  · simpa [e] using law k

/-- What group orders other than RETRACT leave of the command queue, the locks, the causes of HALTED and the two ports. -/
structure GroupsOrdered (s u : State) : Prop where
  resumePhase : u.abu.resumePhase = s.abu.resumePhase
  haltCause : u.abu.haltCause = s.abu.haltCause
  tx : u.mlp.tx = s.mlp.tx
  requests : u.clp.rxQueue = s.clp.rxQueue
  keys : KeysOnce s → KeysOnce u
  orders : OrderLaw s → OrderLaw u
  noRetract : ∀ g, retractWaits s g = false → retractWaits u g = false
  locks : LockLaw s → LockLaw u
  held : ∀ g, (groupOf s g).lock = true → (groupOf u g).lock = true

/-- Beside these, the phase and the build tables are as they were. -/
structure OrderedOn (s u : State) : Prop extends GroupsOrdered s u where
  phase : u.abu.phase = s.abu.phase
  buildOrder : u.abu.buildOrder = s.abu.buildOrder
  expected : u.abu.expected = s.abu.expected
  sectors : u.abu.sectors = s.abu.sectors

namespace GroupsOrdered

variable {s t u : State}

/-- One operation after the other. -/
theorem trans (h : GroupsOrdered s t) (k : GroupsOrdered t u) : GroupsOrdered s u where
  resumePhase := k.resumePhase.trans h.resumePhase
  haltCause := k.haltCause.trans h.haltCause
  tx := k.tx.trans h.tx
  requests := k.requests.trans h.requests
  keys x := k.keys (h.keys x)
  orders x := k.orders (h.orders x)
  noRetract g x := k.noRetract g (h.noRetract g x)
  locks x := k.locks (h.locks x)
  held g x := k.held g (h.held g x)

/-- One operation before the other. -/
theorem after (k : GroupsOrdered t u) (h : GroupsOrdered s t) : GroupsOrdered s u := h.trans k

/-- A change of the ABU beside the groups and the causes of HALTED. -/
theorem of_onAbu (f : Abu → Abu) (s : State) (groups : (f s.abu).groups = s.abu.groups)
    (resumePhase : (f s.abu).resumePhase = s.abu.resumePhase) (haltCause : (f s.abu).haltCause = s.abu.haltCause) :
    GroupsOrdered s (s.onAbu f) where
  resumePhase := resumePhase
  haltCause := haltCause
  tx := rfl
  requests := rfl
  keys x := x
  orders x g := by rw [groupOf, State.onAbu_abu, groups]; exact x g
  noRetract _ x := x
  locks x g := by rw [groupOf, State.onAbu_abu, groups]; exact x g
  held g x := by rw [groupOf, State.onAbu_abu, groups]; exact x

end GroupsOrdered

/-- An operation beside the laws gives no RETRACT. -/
theorem OrdersKept.orderedOn {s u : State} (h : OrdersKept s u) : OrderedOn s u where
  phase := h.phase
  resumePhase := h.resumePhase
  haltCause := h.haltCause
  buildOrder := h.buildOrder
  expected := h.expected
  sectors := h.sectors
  tx := h.tx
  requests := h.requests
  keys := h.keys
  orders := h.orderLaw
  noRetract g x := by rw [h.retractWaits]; exact x
  locks := h.lockLaw
  held g x := by rw [h.lock]; exact x

/-- The same of an operation on the blocks that the build does not look at. -/
theorem BuildKept.orderedOn {s u : State} (h : BuildKept s u) : OrderedOn s u := h.toOrdersKept.orderedOn

namespace OrderedOn

variable {s t u : State}

/-- One operation after the other. -/
theorem trans (h : OrderedOn s t) (k : OrderedOn t u) : OrderedOn s u where
  toGroupsOrdered := h.toGroupsOrdered.trans k.toGroupsOrdered
  phase := k.phase.trans h.phase
  buildOrder := k.buildOrder.trans h.buildOrder
  expected := k.expected.trans h.expected
  sectors := k.sectors.trans h.sectors

/-- One operation before the other. -/
theorem after (k : OrderedOn t u) (h : OrderedOn s t) : OrderedOn s u := h.trans k

/-- Nothing done. -/
theorem refl (s : State) : OrderedOn s s := (BuildKept.refl s).orderedOn

/-- The law of HALTED. -/
theorem haltLaw (h : OrderedOn s u) (law : HaltLaw s) : HaltLaw u := by
  unfold HaltLaw
  rw [h.phase, h.resumePhase, h.haltCause]
  exact law

/-- The law of the expected sector. -/
theorem seatingLaw (h : OrderedOn s u) (law : SeatingLaw s) : SeatingLaw u := by
  unfold SeatingLaw cyclePhase expectedSector sectorOf
  rw [h.phase, h.resumePhase, h.buildOrder, h.expected, h.sectors]
  exact law

/-- One order other than RETRACT. -/
theorem orderGroup (g : Fin 7) (o : GroupOrder) (ho : o ≠ .retract) (s : State) : OrderedOn s (orderGroup g o s) where
  phase := rfl
  resumePhase := rfl
  haltCause := rfl
  buildOrder := rfl
  expected := rfl
  sectors := rfl
  tx := rfl
  requests := rfl
  keys := placedQueue_nodup _ s.mlp.queue
  orders := orderLaw_orderGroup g o s
  noRetract k none := by
    rw [retractWaits_orderGroup]
    split
    · simpa using ho
    · exact none
  locks law k := by
    rw [retractWaits_orderGroup, groupOf_orderGroup]
    by_cases e : k = g
    · simp only [e, if_true, orderedGroup, decide_eq_false_iff_not]
      exact fun _ => ⟨by cases o <;> simp_all [orderedState], by cases o <;> simp [orderedState], ho⟩
    · simpa only [if_neg e] using law k
  held k locked := by
    rw [groupOf_orderGroup]
    split
    · rename_i e
      exact e ▸ locked
    · exact locked

/-- One operation on each entry of a list in turn. -/
theorem foldl {α : Type} (f : State → α → State) (hf : ∀ s a, OrderedOn s (f s a)) (xs : List α) (s : State) :
    OrderedOn s (xs.foldl f s) := by
  induction xs generalizing s with
  | nil => exact refl s
  | cons x xs ih => exact (hf s x).trans (ih _)

/-- Orders other than RETRACT to the groups that satisfy a condition. -/
theorem orderGroups (o : GroupOrder) (ho : o ≠ .retract) (p : Group → Bool) (s : State) :
    OrderedOn s (orderGroups o p s) := by
  refine foldl _ (fun t g => ?_) _ s
  split
  · exact orderGroup g o ho t
  · exact refl t

end OrderedOn

/-- With no RETRACT waiting the laws hold after orders other than RETRACT. -/
theorem OrderedOn.buildLaws {s u : State} (h : OrderedOn s u) (laws : BuildLaws s)
    (none : ∀ g, retractWaits s g = false) : BuildLaws u :=
  .of_noRetract (h.keys laws.keys) (h.orders laws.orders) (h.haltLaw laws.halt) (h.seatingLaw laws.seating)
    fun g => h.noRetract g (none g)

end Sys2Proof.Machine
end

section
/-! SUPPORT. The laws of withdrawal and of locks through changes of phase, through the suspension and the closure of a
build, and through a safe stop (R17, R59, R60, R62, R63, R73 to R76). -/

namespace Sys2Proof.Machine

/-! ## Changes of phase (R1, R6) -/

/-- The state with another phase, before the rate follows it. -/
def withPhase (p : Phase) (s : State) : State := s.onAbu fun a => { a with phase := p }

/-- A phase set is the rate recomputed in that phase. -/
theorem BuildKept.setPhase (p : Phase) (s : State) : BuildKept (withPhase p s) (setPhase p s) := recomputeRate _

/-- A phase changed is a phase set with what follows it; a phase kept is no change. -/
theorem BuildKept.changePhase (p : Phase) (s : State) : BuildKept (withPhase p s) (changePhase p s) := by
  unfold Machine.changePhase
  split
  · rename_i same
    subst same
    exact of_same (by rfl)
  · exact (followPhase _).after (setPhase p s)

/-- Another phase, with the groups as they are. -/
theorem GroupsOrdered.withPhase (p : Phase) (s : State) : GroupsOrdered s (withPhase p s) := of_onAbu _ s rfl rfl rfl

/-- A phase changed leaves the groups and their orders. -/
theorem GroupsOrdered.changePhase (p : Phase) (s : State) : GroupsOrdered s (changePhase p s) :=
  (GroupsOrdered.withPhase p s).trans (BuildKept.changePhase p s).orderedOn.toGroupsOrdered

/-- Outside HALTED there is no resume phase and no halt cause (R1). -/
theorem HaltLaw.running {s : State} (h : HaltLaw s) (hp : s.abu.phase ≠ .halted) :
    s.abu.resumePhase = none ∧ s.abu.haltCause = none := by
  obtain ⟨resume, cause, -⟩ := h
  exact ⟨by simpa [resume] using hp, by simpa [cause] using hp⟩

/-- Without a resume phase and a halt cause the law of HALTED holds in every other phase. -/
theorem haltLaw_of_running {s : State} (hp : s.abu.phase ≠ .halted) (resume : s.abu.resumePhase = none)
    (cause : s.abu.haltCause = none) : HaltLaw s := by
  simp [HaltLaw, hp, resume, cause]

/-- The law of HALTED through a change between two other phases. -/
theorem GroupsOrdered.haltLaw {s u : State} (h : GroupsOrdered s u) (law : HaltLaw s) (hs : s.abu.phase ≠ .halted)
    (hu : u.abu.phase ≠ .halted) : HaltLaw u := by
  obtain ⟨resume, cause⟩ := law.running hs
  exact haltLaw_of_running hu (h.resumePhase.trans resume) (h.haltCause.trans cause)

/-- The phases of a build. -/
def buildPhase : Phase → Bool
  | .building | .buildSuspended => true
  | .unconfigured | .idle | .ready | .boring | .strokeEnd | .halted => false

/-- Outside a build the law of the expected sector says nothing. -/
theorem seatingLaw_of_outside {s : State} (hp : buildPhase s.abu.phase = false) (resume : s.abu.resumePhase = none) :
    SeatingLaw s := by
  rintro (h | h) <;> simp [cyclePhase, resume] at h <;> simp [h, buildPhase] at hp

/-! ## What an operation does to the laws -/

/-- An operation keeps the laws of the build, the law of locks beside them, the frame on the Machine Line unless it has
ended, and the request being served. -/
structure LawsKept (s u : State) : Prop where
  laws : BuildLaws s → BuildLaws u
  locks : BuildLaws s → LockLaw s → LockLaw u
  tx : u.mlp.tx = s.mlp.tx ∨ u.mlp.tx = none
  requests : s.clp.rxQueue ≠ [] → u.clp.rxQueue ≠ []

/-- Beside these, no lock is released. -/
structure StepKept (s u : State) : Prop extends LawsKept s u where
  held : ∀ g, (groupOf s g).lock = true → (groupOf u g).lock = true

/-- One operation after the other. -/
theorem LawsKept.trans {s t u : State} (h : LawsKept s t) (k : LawsKept t u) : LawsKept s u where
  laws x := k.laws (h.laws x)
  locks x y := k.locks (h.laws x) (h.locks x y)
  tx := k.tx.elim (fun e => e ▸ h.tx) .inr
  requests x := k.requests (h.requests x)

namespace StepKept

variable {s t u : State}

/-- One operation after the other. -/
theorem trans (h : StepKept s t) (k : StepKept t u) : StepKept s u where
  toLawsKept := h.toLawsKept.trans k.toLawsKept
  held g x := k.held g (h.held g x)

/-- One operation before the other. -/
theorem after (k : StepKept t u) (h : StepKept s t) : StepKept s u := h.trans k

/-- An operation on the blocks that the build does not look at. -/
theorem of_buildKept (h : BuildKept s u) : StepKept s u where
  laws := h.buildLaws
  locks _ := h.lockLaw
  tx := .inl h.tx
  requests x := by rw [h.requests]; exact x
  held g x := by rw [h.lock]; exact x

/-- Nothing done. -/
theorem refl (s : State) : StepKept s s := of_buildKept (.refl s)

/-- Orders after which no RETRACT waits. -/
theorem of_noRetract (h : GroupsOrdered s u) (none : BuildLaws s → ∀ g, retractWaits u g = false)
    (halt : BuildLaws s → HaltLaw u) (seating : BuildLaws s → SeatingLaw u) : StepKept s u where
  laws x := .of_noRetract (h.keys x.keys) (h.orders x.orders) (halt x) (seating x) (none x)
  locks _ := h.locks
  tx := .inl h.tx
  requests x := by rw [h.requests]; exact x
  held := h.held

/-- Orders other than RETRACT, where none waits. -/
theorem of_groupsOrdered (h : GroupsOrdered s u) (none : BuildLaws s → ∀ g, retractWaits s g = false)
    (halt : BuildLaws s → HaltLaw u) (seating : BuildLaws s → SeatingLaw u) : StepKept s u :=
  of_noRetract h (fun x g => h.noRetract g (none x g)) halt seating

/-- Orders other than RETRACT that lead out of a build, or stay outside it. -/
theorem of_outside (h : GroupsOrdered s u) (none : BuildLaws s → ∀ g, retractWaits s g = false)
    (hs : s.abu.phase ≠ .halted) (hu : buildPhase u.abu.phase = false) (halt : u.abu.phase ≠ .halted) : StepKept s u :=
  of_groupsOrdered h none (fun x => h.haltLaw x.halt hs halt)
    fun x => seatingLaw_of_outside hu (h.resumePhase.trans (x.halt.running hs).1)

/-- One operation on each entry of a list in turn. -/
theorem foldl {α : Type} (f : State → α → State) (hf : ∀ s a, StepKept s (f s a)) (xs : List α) (s : State) :
    StepKept s (xs.foldl f s) := by
  induction xs generalizing s with
  | nil => exact refl s
  | cons x xs ih => exact (hf s x).trans (ih _)

end StepKept

/-! ## Ends of moves (R59) -/

/-- A group that could withdraw still can while the HOLDING groups stay HOLDING. -/
theorem MayWithdraw.mono {s u : State} {g : Fin 7} (h : MayWithdraw s g) (fbu : u.fbu = s.fbu) (cfb : u.cfb = s.cfb)
    (holding : ∀ k, (groupOf s k).state = .holding → (groupOf u k).state = .holding) : MayWithdraw u g := by
  obtain ⟨valid, fewer, bears⟩ := h
  have out : (allGroups.filter fun k => k != g && (groupOf u k).state != .holding).length ≤
      (allGroups.filter fun k => k != g && (groupOf s k).state != .holding).length := by
    refine (List.monotone_filter_right _ fun k hk => ?_).length_le
    simp only [Bool.and_eq_true, bne_iff_ne] at hk ⊢
    exact ⟨hk.1, fun e => hk.2 (holding k e)⟩
  have held : holdingCount s (fun k => k != g) ≤ holdingCount u fun k => k != g := by
    refine (List.monotone_filter_right _ fun k hk => ?_).length_le
    simp only [Bool.and_eq_true, bne_iff_ne, beq_iff_eq] at hk ⊢
    exact ⟨hk.1, holding k hk.2⟩
  refine ⟨by rw [fbu]; exact valid, by rw [cfb]; exact lt_of_le_of_lt out fewer, fun p hp => ?_⟩
  rw [fbu] at hp
  unfold holdingForceWithout requiredForce
  rw [cfb]
  exact (bears p hp).trans (Nat.mul_le_mul_right _ held)

/-- The laws through an operation on groups that are not HOLDING, which gives no new RETRACT. -/
theorem BuildLaws.advance {s u : State} (laws : BuildLaws s) (h : OrderedOn s u) (fbu : u.fbu = s.fbu)
    (cfb : u.cfb = s.cfb) (holding : ∀ k, (groupOf s k).state = .holding → (groupOf u k).state = .holding)
    (withdrawn : ∀ g, retractWaits u g = true → (groupOf s g).state = .retracting ∨ (groupOf s g).state = .retracted →
      (groupOf u g).state = .retracting ∨ (groupOf u g).state = .retracted) : BuildLaws u where
  keys := h.keys laws.keys
  orders := h.orders laws.orders
  halt := h.haltLaw laws.halt
  seating := h.seatingLaw laws.seating
  withdrawal g waits := by
    have before : retractWaits s g = true := by
      by_contra none
      rw [h.noRetract g (by simpa using none)] at waits
      exact absurd waits (by simp)
    obtain ⟨phase, expected, state, may⟩ := laws.withdrawal g before
    exact ⟨h.phase.trans phase, h.expected.trans expected, withdrawn g waits state, may.mono fbu cfb holding⟩

/-- A new state of a group that has ended its move: RETRACTED after RETRACTING, or HOLDING. -/
theorem StepKept.of_onGroup (g : Fin 7) (f : Group → Group) (s : State) (lock : ∀ x, (f x).lock = x.lock)
    (queued : ∀ x, (f x).orderQueued = x.orderQueued)
    (moved : ((groupOf s g).state = .retracting ∧ (f (groupOf s g)).state = .retracted) ∨
      ((groupOf s g).state ≠ .retracting ∧ (groupOf s g).state ≠ .retracted ∧ (f (groupOf s g)).state = .holding)) :
    StepKept s (onGroup g f s) := by
  have state (k : Fin 7) : (groupOf (onGroup g f s) k).state =
      if k = g then (f (groupOf s g)).state else (groupOf s k).state := by
    rw [groupOf_onGroup]; exact apply_ite Group.state _ _ _
  have sameLock (k : Fin 7) : (groupOf (onGroup g f s) k).lock = (groupOf s k).lock := by
    rw [groupOf_onGroup]
    split
    · rename_i e
      rw [lock, e]
    · rfl
  have sameQueued (k : Fin 7) : (groupOf (onGroup g f s) k).orderQueued = (groupOf s k).orderQueued := by
    rw [groupOf_onGroup]
    split
    · rename_i e
      rw [queued, e]
    · rfl
  have ordered (law : LockLaw s) : LockLaw (onGroup g f s) := by
    intro k locked
    rw [sameLock] at locked
    obtain ⟨moving, out, none⟩ := law k locked
    rw [state]
    by_cases e : k = g
    · subst e
      rw [if_pos rfl]
      rcases moved with ⟨began, -⟩ | ⟨-, -, ended⟩
      · exact absurd began moving
      · rw [ended]; exact ⟨by simp, by simp, none⟩
    · rw [if_neg e]
      exact ⟨moving, out, none⟩
  have given : OrderedOn s (onGroup g f s) :=
    { phase := rfl, resumePhase := rfl, haltCause := rfl, buildOrder := rfl, expected := rfl, sectors := rfl
      tx := rfl, requests := rfl, keys := fun x => x, noRetract := fun _ x => x, locks := ordered
      orders := fun x k => by rw [sameQueued]; exact x k
      held := fun k x => by rw [sameLock]; exact x }
  refine ⟨⟨fun laws => laws.advance given rfl rfl ?_ ?_, fun _ => ordered, .inl rfl, fun x => x⟩, given.held⟩
  · intro k hk
    rw [state]
    split
    · rename_i e
      subst e
      rcases moved with ⟨began, -⟩ | ⟨-, -, ended⟩
      · exact absurd (hk.symm.trans began) (by simp)
      · exact ended
    · exact hk
  · intro k _ hk
    rw [state]
    split
    · rename_i e
      subst e
      rcases moved with ⟨-, ended⟩ | ⟨moving, out, -⟩
      · exact .inr ended
      · exact (hk.elim moving out).elim
    · exact hk

/-- An order other than RETRACT to a group that is not HOLDING. -/
theorem StepKept.orderGroup (g : Fin 7) (o : GroupOrder) (ho : o ≠ .retract) (s : State)
    (hg : (groupOf s g).state ≠ .holding) : StepKept s (orderGroup g o s) := by
  have given := OrderedOn.orderGroup g o ho s
  refine ⟨⟨fun laws => laws.advance given rfl rfl ?_ ?_, fun _ => given.locks, .inl rfl, fun x => x⟩, given.held⟩
  · intro k hk
    rw [groupOf_orderGroup, if_neg fun e : k = g => hg (e ▸ hk)]
    exact hk
  · intro k waits hk
    rw [retractWaits_orderGroup] at waits
    rw [groupOf_orderGroup]
    split
    · rename_i e
      rw [if_pos e] at waits
      exact absurd (of_decide_eq_true waits) ho
    · exact hk

/-- The end of one group's move. -/
theorem StepKept.endMove (g : Fin 7) (s : State) : StepKept s (endMove g s) := by
  unfold Machine.endMove
  simp only
  split
  · rename_i moving _
    split
    · refine (orderGroup g .recover (by simp) _ ?_).after (.of_buildKept (.onGroup g _ ?_ ?_ ?_ s))
      · rw [groupOf_onGroup, if_pos rfl]
        simp [moving]
      all_goals exact fun _ => rfl
    · exact of_onGroup g _ s (fun _ => rfl) (fun _ => rfl) (.inl ⟨moving, rfl⟩)
  · rename_i moving _
    exact of_onGroup g _ s (fun _ => rfl) (fun _ => rfl) (.inr (by simp [moving]))
  · rename_i moving _
    exact of_onGroup g _ s (fun _ => rfl) (fun _ => rfl) (.inr (by simp [moving]))
  · exact refl s

/-- The ends of all moves that a sample completes. -/
theorem StepKept.endMoves (s : State) : StepKept s (endMoves s) := foldl _ (fun t g => endMove g t) _ s

end Sys2Proof.Machine
end

section
/-! SUPPORT. The laws of withdrawal and of locks through the checks of a build: its suspension, its resumption, the closure
of the ring, and a new withdrawal (R63, R65, R66, R73 to R76). -/

namespace Sys2Proof.Machine

/-! ## Entry into BUILD_SUSPENDED (R74) -/

/-- Suspension gives a group no RETRACT. -/
theorem OrderedOn.suspendGroup (g : Fin 7) (s : State) : OrderedOn s (suspendGroup g s) := by
  unfold Machine.suspendGroup
  simp only
  split
  · exact orderGroup g _ (by simp) s
  · split
    · exact orderGroup g _ (by simp) s
    · exact (BuildKept.onGroup g (fun x => { x with recoverPending := true }) (fun _ => rfl) (fun _ => rfl)
        (fun _ => rfl) s).orderedOn
  all_goals exact refl s

/-- Suspension acts on each group alone. -/
theorem groupOf_suspendGroup_other (g k : Fin 7) (s : State) (hk : k ≠ g) :
    groupOf (suspendGroup g s) k = groupOf s k := by
  unfold suspendGroup
  simp only
  split
  · rw [groupOf_orderGroup, if_neg hk]
  · split
    · rw [groupOf_orderGroup, if_neg hk]
    · rw [groupOf_onGroup, if_neg hk]
  all_goals rfl

/-- A RETRACT that waits for a group on its way out is withdrawn (R60, R74). -/
theorem retractWaits_suspendGroup (g : Fin 7) (s : State) (queued : (groupOf s g).orderQueued = orderWaits s g)
    (leaving : retractWaits s g = true → (groupOf s g).state = .retracting ∨ (groupOf s g).state = .retracted) :
    retractWaits (suspendGroup g s) g = false := by
  by_cases waits : retractWaits s g = true
  · have ordered : (groupOf s g).orderQueued = true := by
      obtain ⟨t, ht⟩ := (retractWaits_iff s g).mp waits
      rw [queued, orderWaits_iff]
      exact ⟨_, t, ht⟩
    unfold suspendGroup
    rcases leaving waits with state | state <;> simp [state, ordered, retractWaits_orderGroup]
  · exact (OrderedOn.suspendGroup g s).noRetract g (by simpa using waits)

/-- A RETRACT of another group waits only if it waited before. -/
theorem OrderedOn.retractWaits_before {s u : State} (h : OrderedOn s u) {g : Fin 7} (waits : retractWaits u g = true) :
    retractWaits s g = true := by
  by_contra none
  rw [h.noRetract g (by simpa using none)] at waits
  exact absurd waits (by simp)

/-- Suspension withdraws every RETRACT that waits for a group on its way out. -/
theorem suspendGroups_noRetract (s : State) (law : OrderLaw s)
    (leaving : ∀ g, retractWaits s g = true → (groupOf s g).state = .retracting ∨ (groupOf s g).state = .retracted) :
    OrderedOn s (suspendGroups s) ∧ ∀ g, retractWaits (suspendGroups s) g = false := by
  have main (gs : List (Fin 7)) : ∀ t, OrderLaw t →
      (∀ g, retractWaits t g = true → (groupOf t g).state = .retracting ∨ (groupOf t g).state = .retracted) →
      OrderedOn t (gs.foldl (fun t g => suspendGroup g t) t) ∧
        ∀ g ∈ gs, retractWaits (gs.foldl (fun t g => suspendGroup g t) t) g = false := by
    induction gs with
    | nil => exact fun t _ _ => ⟨.refl t, by simp⟩
    | cons g gs ih =>
      intro t law leaving
      have first := OrderedOn.suspendGroup g t
      have none := retractWaits_suspendGroup g t (law g) (leaving g)
      obtain ⟨rest, gone⟩ := ih (suspendGroup g t) (first.orders law) fun k waits => by
        have other : k ≠ g := by
          rintro rfl
          exact absurd none (by rw [waits]; simp)
        rw [groupOf_suspendGroup_other g k t other]
        exact leaving k (first.retractWaits_before waits)
      exact ⟨first.trans rest, fun k hk => (List.mem_cons.mp hk).elim (fun e => rest.noRetract k (e ▸ none)) (gone k)⟩
  have all (g : Fin 7) : g ∈ allGroups := by revert g; decide
  obtain ⟨ordered, gone⟩ := main allGroups s law leaving
  exact ⟨ordered, fun g => gone g (all g)⟩

/-! ## The holding check (R65) -/

/-- The groups other than one that is not HOLDING give the whole holding force. -/
theorem holdingForceWithout_eq (s : State) (g : Fin 7) (hg : (groupOf s g).state ≠ .holding) :
    holdingForceWithout s g = holdingForce s := by
  unfold holdingForceWithout holdingForce holdingCount
  refine congrArg (fun n => n * _) (congrArg List.length (List.filter_congr fun k _ => ?_))
  by_cases e : k = g
  · subst e
    simp [hg]
  · simp [e]

/-- F_req with the face VALID. -/
theorem requiredNow_eq_some (s : State) (f : Nat) :
    requiredNow s = some f ↔ s.fbu.valid = true ∧ ∃ p, s.fbu.pw = some p ∧ requiredForce s p = f := by
  unfold requiredNow
  split
  · rename_i valid
    simp [valid]
  · rename_i invalid
    simp [invalid]

/-- A build may stay with the face VALID and its F_req borne. -/
theorem staysBuilding_iff (s : State) :
    staysBuilding s = true ↔ s.fbu.valid = true ∧ ∃ p, s.fbu.pw = some p ∧ requiredForce s p ≤ holdingForce s := by
  unfold staysBuilding
  cases hf : requiredNow s with
  | none =>
    refine iff_of_false (by simp) fun ⟨valid, p, hp, _⟩ => ?_
    rw [(requiredNow_eq_some s (requiredForce s p)).mpr ⟨valid, p, hp, rfl⟩] at hf
    exact absurd hf (by simp)
  | some f =>
    obtain ⟨valid, p, hp, rfl⟩ := (requiredNow_eq_some s f).mp hf
    simp [valid, hp]

/-! ## The check of staying in BUILDING (R73) -/

/-- The laws of a build before its holding check: a waiting RETRACT need not be borne by the other groups. -/
structure UncheckedLaws (s : State) : Prop where
  keys : KeysOnce s
  orders : OrderLaw s
  halt : HaltLaw s
  seating : SeatingLaw s
  waiting : ∀ g, retractWaits s g = true → s.abu.phase = .building ∧ s.abu.expected = some g ∧
    ((groupOf s g).state = .retracting ∨ (groupOf s g).state = .retracted) ∧
    (allGroups.filter fun k => k != g && (groupOf s k).state != .holding).length < s.cfb.thrust.maxRetracted

/-- The laws of a build, with the holding check left aside. -/
theorem BuildLaws.unchecked {s : State} (h : BuildLaws s) : UncheckedLaws s where
  keys := h.keys
  orders := h.orders
  halt := h.halt
  seating := h.seating
  waiting g waits := by
    obtain ⟨phase, expected, state, -, fewer, -⟩ := h.withdrawal g waits
    exact ⟨phase, expected, state, fewer⟩

/-- The unchecked laws through an operation that leaves the groups, their orders and the thrust settings. -/
theorem OrdersKept.uncheckedLaws {s u : State} (h : OrdersKept s u) (thrust : u.cfb.thrust = s.cfb.thrust)
    (laws : UncheckedLaws s) : UncheckedLaws u where
  keys := h.keys laws.keys
  orders := h.orderLaw laws.orders
  halt := h.haltLaw laws.halt
  seating := h.seatingLaw laws.seating
  waiting g waits := by
    rw [h.retractWaits] at waits
    rw [h.phase, h.expected, h.state, thrust]
    simp only [h.state]
    exact laws.waiting g waits

/-- A build that stays has its waiting RETRACTs borne. -/
theorem UncheckedLaws.checked {s : State} (h : UncheckedLaws s)
    (stays : s.abu.phase = .building → staysBuilding s = true) : BuildLaws s where
  keys := h.keys
  orders := h.orders
  halt := h.halt
  seating := h.seating
  withdrawal g waits := by
    obtain ⟨phase, expected, state, fewer⟩ := h.waiting g waits
    obtain ⟨valid, p, hp, bears⟩ := (staysBuilding_iff s).mp (stays phase)
    refine ⟨phase, expected, state, valid, fewer, fun q hq => ?_⟩
    obtain rfl : p = q := Option.some.inj (hp.symm.trans hq)
    rw [holdingForceWithout_eq s g (by rcases state with e | e <;> simp [e])]
    exact bears

/-- The build suspended in phase and count, before its groups are recovered (R73). -/
def suspensionCounted (s : State) : State :=
  (queueEvent (.buildSuspended (!s.fbu.valid)) (setPhase .buildSuspended s)).onAbu fun a =>
    { a with suspensions := heldAdd 255 a.suspensions 1 }

/-- A suspension counts itself, acts on the groups, and is followed by the screw and the pumps. -/
theorem suspendBuild_eq (s : State) : suspendBuild s = followPhase (suspendGroups (suspensionCounted s)) := rfl

/-- The phase and the count of a suspension are beside the groups. -/
theorem BuildKept.suspensionCounted (s : State) : BuildKept (withPhase .buildSuspended s) (suspensionCounted s) :=
  .after (.of_figures rfl (.of_same (by rfl))) ((queueEvent _ _).after (setPhase _ s))

/-- A suspension withdraws the RETRACTs that wait, and orders the groups back. -/
theorem suspendBuild_ordered (s : State) (h : UncheckedLaws s) :
    OrderedOn (withPhase .buildSuspended s) (suspendBuild s) ∧ ∀ g, retractWaits (suspendBuild s) g = false := by
  have counted := BuildKept.suspensionCounted s
  obtain ⟨recovered, gone⟩ := suspendGroups_noRetract (suspensionCounted s) (counted.orderLaw h.orders) fun g waits => by
    rw [counted.retractWaits] at waits
    rw [counted.state]
    exact (h.waiting g waits).2.2.1
  have followed := (BuildKept.followPhase (suspendGroups (suspensionCounted s))).orderedOn
  exact ⟨(counted.orderedOn.trans recovered).trans followed, fun g => followed.noRetract g (gone g)⟩

/-- What an operation that ends in a holding check does, from a state before that check. -/
structure CheckedKept (s u : State) : Prop where
  laws : UncheckedLaws s → BuildLaws u
  locks : UncheckedLaws s → LockLaw s → LockLaw u
  tx : u.mlp.tx = s.mlp.tx ∨ u.mlp.tx = none
  requests : s.clp.rxQueue ≠ [] → u.clp.rxQueue ≠ []
  held : ∀ g, (groupOf s g).lock = true → (groupOf u g).lock = true

/-- Outside BUILDING a holding check asks nothing. -/
theorem StepKept.checkedKept {s u : State} (h : StepKept s u) (hp : s.abu.phase ≠ .building) : CheckedKept s u where
  laws x := h.laws (x.checked fun building => absurd building hp)
  locks x := h.locks (x.checked fun building => absurd building hp)
  tx := h.tx
  requests := h.requests
  held := h.held

/-- A holding check, from a state that meets the laws. -/
theorem CheckedKept.stepKept {s u : State} (h : CheckedKept s u) : StepKept s u where
  laws x := h.laws x.unchecked
  locks x := h.locks x.unchecked
  tx := h.tx
  requests := h.requests
  held := h.held

/-- Suspension gives no RETRACT, releases no lock, and sends no frame. -/
theorem OrderedOn.suspendGroups (s : State) : OrderedOn s (suspendGroups s) := foldl _ (fun t g => suspendGroup g t) _ s

/-- The check of staying in BUILDING. -/
theorem CheckedKept.checkStay (s : State) : CheckedKept s (checkStay s) := by
  unfold Machine.checkStay
  split
  · rename_i fails
    obtain ⟨building, -⟩ := fails
    have given : OrderedOn (withPhase .buildSuspended s) (suspendBuild s) :=
      (BuildKept.followPhase _).orderedOn.after
        ((OrderedOn.suspendGroups _).after (BuildKept.suspensionCounted s).orderedOn)
    refine ⟨fun h => ?_, fun _ => given.locks, .inl given.tx, fun h => by rw [given.requests]; exact h, given.held⟩
    obtain ⟨resume, cause⟩ := h.halt.running (by simp [building])
    refine .of_noRetract (given.keys h.keys) (given.orders h.orders) ?_ ?_ (suspendBuild_ordered s h).2
    · exact given.haltLaw (haltLaw_of_running (by simp [withPhase]) resume cause)
    · exact given.seatingLaw fun _ => h.seating (.inl (by simp [cyclePhase, resume, building]))
  · rename_i passes
    exact ⟨fun h => h.checked fun building => by simpa [building] using passes, fun _ h => h, .inl rfl, fun h => h,
      fun _ h => h⟩

/-! ## The expected sector formed anew (R63) -/

/-- The next-sector item. -/
theorem BuildKept.nextSector (k : Option (Fin 7)) (s : State) : BuildKept s (Machine.placeItem (.nextSector k) s) :=
  placeItem (.nextSector k) (by simp [keyOf]) s

/-- The expected sector formed, with its item when it changes. -/
theorem BuildKept.formExpected (s : State) :
    BuildKept (s.onAbu fun a => { a with expected := expectedSector s }) (formExpected s) := by
  unfold Machine.formExpected
  split
  · rename_i same
    rw [same]
    exact of_same (by rfl)
  · exact nextSector _ _

/-- The expected sector absent, with its item when that is a change. -/
theorem BuildKept.clearExpected (s : State) :
    BuildKept (s.onAbu fun a => { a with expected := none }) (clearExpected s) := by
  unfold Machine.clearExpected
  split
  · rename_i same
    exact of_same (by rw [State.onAbu_abu, ← Option.isNone_iff_eq_none.mp same]; rfl)
  · exact nextSector _ _

/-! ## The closure of the ring (R76) -/

/-- The state with the OPEN record closed (R76 steps 1 to 3). -/
def closureRecorded (s : State) : State :=
  match openRing s with
  | none => s
  | some r => closeRecord r s

/-- The state that a closure leaves before its change of phase: no sector expected, the next plan active (R76). -/
def closurePlanned (s : State) : State := nextPlan (clearExpected (closureRecorded s))

/-- A closure goes on to READY with a next plan, and to IDLE without one. -/
theorem closeRing_eq (s : State) :
    closeRing s = changePhase (if (closurePlanned s).rru.active.isSome then .ready else .idle) (closurePlanned s) := rfl

/-- The OPEN record closed. -/
theorem BuildKept.closureRecorded (s : State) : BuildKept s (closureRecorded s) := by
  unfold Machine.closureRecorded
  split
  · exact refl s
  · exact closeRecord _ s

/-- A closure leaves the groups and their orders until its change of phase. -/
theorem GroupsOrdered.closurePlanned (s : State) : GroupsOrdered s (closurePlanned s) := by
  have recorded := (BuildKept.closureRecorded s).orderedOn.toGroupsOrdered
  have cleared := (BuildKept.clearExpected (closureRecorded s)).orderedOn.toGroupsOrdered
  have planned := (BuildKept.nextPlan (Machine.clearExpected (closureRecorded s))).orderedOn.toGroupsOrdered
  exact ((recorded.trans (of_onAbu _ _ (by rfl) (by rfl) (by rfl))).trans cleared).trans planned

/-- A closure is taken with all seven groups HOLDING. -/
theorem closurePasses_holding (s : State) (h : closurePasses s = true) (g : Fin 7) :
    (groupOf s g).state = .holding := by
  have all : g ∈ allGroups := by revert g; decide
  unfold closurePasses at h
  split at h
  · exact absurd h (by simp)
  · rw [Bool.and_eq_true, List.all_eq_true] at h
    simpa using h.2 g all

/-- The closure check. -/
theorem StepKept.checkClosure (s : State) : StepKept s (checkClosure s) := by
  unfold Machine.checkClosure
  split
  · rename_i passes
    obtain ⟨building, closes⟩ := passes
    have phase : (closeRing s).abu.phase = if (Machine.closurePlanned s).rru.active.isSome then .ready else .idle :=
      (BuildKept.changePhase _ _).phase
    refine of_outside ((GroupsOrdered.changePhase _ _).after (.closurePlanned s))
      (fun laws g => laws.noRetract_of_holding g (closurePasses_holding s closes g)) (by simp [building]) ?_ ?_
    all_goals rw [phase]; split <;> simp [buildPhase]
  · exact refl s

/-! ## The check of leaving BUILD_SUSPENDED (R75) -/

/-- A build suspended and a build resumed expect the same sector, and no RETRACT waits in either. -/
theorem StepKept.withinBuild {s u : State} (p : Phase) (h : OrderedOn (withPhase p s) u)
    (hs : s.abu.phase = .buildSuspended) (hp : buildPhase p = true) : StepKept s u := by
  have running : p ≠ .halted := fun e => absurd hp (by simp [e, buildPhase])
  refine of_groupsOrdered (h.toGroupsOrdered.after (.withPhase p s)) (fun laws => laws.noRetract (by simp [hs])) ?_ ?_
  · intro laws
    obtain ⟨resume, cause⟩ := laws.halt.running (by simp [hs])
    exact h.haltLaw (haltLaw_of_running (by simpa [withPhase] using running) resume cause)
  · intro laws
    obtain ⟨resume, -⟩ := laws.halt.running (by simp [hs])
    exact h.seatingLaw fun _ => laws.seating (.inr (by simp [cyclePhase, resume, hs]))

/-- The check of leaving BUILD_SUSPENDED. -/
theorem StepKept.checkLeave (s : State) : StepKept s (checkLeave s) := by
  unfold Machine.checkLeave
  split
  · rename_i passes
    have resumed := (BuildKept.queueEvent (.buildResumed (s.fbu.pw.getD 0)) _).after (BuildKept.changePhase .building s)
    exact (checkClosure _).after (withinBuild .building resumed.orderedOn passes.1 rfl)
  · exact refl s

/-- What the ABU does with a face evaluation handed over. -/
theorem CheckedKept.buildEvaluation (s : State) : CheckedKept s (buildEvaluation s) := by
  unfold Machine.buildEvaluation
  split
  · rename_i suspended
    exact (StepKept.checkLeave s).checkedKept (by simp [suspended])
  · exact checkStay s

/-- A FACE sample: its evaluation leaves the groups and their orders, and the check that follows restores the laws. -/
theorem StepKept.faceSample (x : FaceSample) (s : State) : StepKept s (faceSample x s) := by
  have evaluated := BuildKept.evaluateFace x s
  have measured : OrdersKept s (measureFace x s) := .of_same rfl
  have kept := measured.trans evaluated.toOrdersKept
  have thrust : (evaluateFace x s).cfb.thrust = s.cfb.thrust := evaluated.thrust
  have checked : CheckedKept (evaluateFace x s) (Machine.faceSample x s) := .buildEvaluation _
  exact {
    laws := fun h => checked.laws (kept.uncheckedLaws thrust h.unchecked)
    locks := fun h l => checked.locks (kept.uncheckedLaws thrust h.unchecked) (kept.lockLaw l)
    tx := checked.tx.imp_left fun e => e.trans kept.tx
    requests := fun h => checked.requests (by rw [kept.requests]; exact h)
    held := fun g h => checked.held g (by rw [kept.lock]; exact h) }

end Sys2Proof.Machine
end

section
/-! SUPPORT. The laws of withdrawal and of locks through a safe stop (R16 to R18, R60, R62, R138). -/

namespace Sys2Proof.Machine

/-! ## The group orders of a safe stop (R17, R62) -/

/-- The orders of a safe stop to the groups of one state, in group order (log 30). -/
def haltOrdersOf (s : State) (st : GroupState) : List Command :=
  allGroups.filterMap fun g =>
    if (groupOf s g).state = st then (haltOrder (groupOf s g)).map (groupCommand s g) else none

/-- PUSHING groups first, then RETRACTED ones, then those withdrawn. -/
theorem haltOrders_eq (s : State) :
    haltOrders s = haltOrdersOf s .pushing ++ haltOrdersOf s .retracted ++ haltOrdersOf s .retracting := rfl

/-- A safe stop gives HOLD and RECOVER alone. -/
theorem haltOrder_ne_retract (x : Group) : haltOrder x ≠ some .retract := by
  unfold haltOrder
  split
  · simp
  · simp
  · split <;> simp
  all_goals simp

/-- A safe stop orders groups that are PUSHING, RETRACTED or RETRACTING. -/
theorem haltOrder_state (x : Group) (o : GroupOrder) (h : haltOrder x = some o) :
    x.state = .pushing ∨ x.state = .retracted ∨ x.state = .retracting := by
  unfold haltOrder at h
  split at h
  all_goals simp_all

/-- The orders to the groups of one state. -/
theorem mem_haltOrdersOf (s : State) (st : GroupState) (c : Command) :
    c ∈ haltOrdersOf s st ↔
      ∃ g o, (groupOf s g).state = st ∧ haltOrder (groupOf s g) = some o ∧ c = groupCommand s g o := by
  have all (g : Fin 7) : g ∈ allGroups := by revert g; decide
  simp only [haltOrdersOf, List.mem_filterMap, all, true_and]
  constructor
  · rintro ⟨g, hg⟩
    split at hg
    · rename_i hs
      obtain ⟨o, ho, rfl⟩ := Option.map_eq_some_iff.mp hg
      exact ⟨g, o, hs, ho, rfl⟩
    · exact absurd hg (by simp)
  · rintro ⟨g, o, hs, ho, rfl⟩
    exact ⟨g, by simp [hs, ho]⟩

/-- The group orders of a safe stop. -/
theorem mem_haltOrders (s : State) (c : Command) :
    c ∈ haltOrders s ↔ ∃ g o, haltOrder (groupOf s g) = some o ∧ c = groupCommand s g o := by
  simp only [haltOrders_eq, List.mem_append, mem_haltOrdersOf]
  constructor
  · rintro ((⟨g, o, -, ho⟩ | ⟨g, o, -, ho⟩) | ⟨g, o, -, ho⟩) <;> exact ⟨g, o, ho⟩
  · rintro ⟨g, o, ho, hc⟩
    rcases haltOrder_state _ _ ho with hs | hs | hs
    · exact .inl (.inl ⟨g, o, hs, ho, hc⟩)
    · exact .inl (.inr ⟨g, o, hs, ho, hc⟩)
    · exact .inr ⟨g, o, hs, ho, hc⟩

/-- The group order items among the safe-stop items. -/
theorem groupOrder_mem_safeStopSet (s : State) (g : Fin 7) (o : GroupOrder) :
    (∃ t, Command.groupOrder g o t ∈ safeStopSet s) ↔ haltOrder (groupOf s g) = some o := by
  simp only [safeStopSet, List.mem_append, mem_haltOrders, groupCommand, List.mem_cons, List.not_mem_nil, reduceCtorEq,
    or_false, false_or, Command.groupOrder.injEq]
  constructor
  · rintro ⟨t, k, p, hp, rfl, rfl, rfl⟩
    exact hp
  · exact fun h => ⟨_, g, o, h, rfl, rfl, rfl⟩

/-- The keys of the orders to the groups of one state. -/
theorem haltOrdersOf_keys (s : State) (st : GroupState) :
    ((haltOrdersOf s st).map keyOf).Nodup ∧
      ∀ k ∈ (haltOrdersOf s st).map keyOf, ∃ g, k = .groupOrder g ∧ (groupOf s g).state = st := by
  constructor
  · unfold haltOrdersOf
    rw [List.map_filterMap]
    refine List.Nodup.filterMap (fun g h k hg hh => ?_) (by decide)
    have key (x : Fin 7) (hx : k ∈ Option.map keyOf
        (if (groupOf s x).state = st then (haltOrder (groupOf s x)).map (groupCommand s x) else none)) :
        k = .groupOrder x := by
      split at hx
      · obtain ⟨c, hc, rfl⟩ := Option.map_eq_some_iff.mp hx
        obtain ⟨o, -, rfl⟩ := Option.map_eq_some_iff.mp hc
        rfl
      · exact absurd hx (by simp)
    simpa using (key g hg).symm.trans (key h hh)
  · intro k hk
    obtain ⟨c, hc, rfl⟩ := List.mem_map.mp hk
    obtain ⟨g, o, hs, -, rfl⟩ := (mem_haltOrdersOf s st c).mp hc
    exact ⟨g, rfl, hs⟩

/-- No two safe-stop items have one key. -/
theorem safeStopSet_keys (s : State) : ((safeStopSet s).map keyOf).Nodup := by
  have apart (st st' : GroupState) (h : st ≠ st') :
      List.Disjoint ((haltOrdersOf s st).map keyOf) ((haltOrdersOf s st').map keyOf) := by
    intro k hk hk'
    obtain ⟨g, rfl, hg⟩ := (haltOrdersOf_keys s st).2 k hk
    obtain ⟨g', e, hg'⟩ := (haltOrdersOf_keys s st').2 _ hk'
    cases e
    exact h (hg.symm.trans hg')
  have group (k : ItemKey) (hk : k ∈ (haltOrders s).map keyOf) : ∃ g, k = .groupOrder g := by
    obtain ⟨c, hc, rfl⟩ := List.mem_map.mp hk
    obtain ⟨g, o, -, rfl⟩ := (mem_haltOrders s c).mp hc
    exact ⟨g, rfl⟩
  have orders : ((haltOrders s).map keyOf).Nodup := by
    rw [haltOrders_eq, List.map_append, List.map_append]
    refine List.Nodup.append (List.Nodup.append (haltOrdersOf_keys s _).1 (haltOrdersOf_keys s _).1 (apart _ _ (by simp)))
      (haltOrdersOf_keys s _).1 ?_
    rw [List.disjoint_append_left]
    exact ⟨apart _ _ (by simp), apart _ _ (by simp)⟩
  unfold safeStopSet
  rw [List.map_append]
  refine List.Nodup.append (by simp [keyOf]) orders fun k hk hk' => ?_
  obtain ⟨g, rfl⟩ := group k hk'
  simp [keyOf] at hk

/-! ## The safe-stop items placed, and the groups ordered (R62, R138) -/

/-- The safe-stop items of a state placed, with its groups ordered. -/
def safeStopPlaced (s : State) : State := placeSafeStop (safeStopSet s) (haltGroups s)

/-- The items that wait after a safe stop: its own, and those of other keys that waited. -/
theorem itemWaits_safeStopPlaced (d : Command) (s : State) :
    ItemWaits d (safeStopPlaced s) ↔
      d ∈ safeStopSet s ∨ (ItemWaits d s ∧ ∀ c ∈ safeStopSet s, keyOf c ≠ keyOf d) := by
  have queue : (safeStopPlaced s).mlp.queue = safeStopQueue (safeStopSet s) s.mlp.queue := by
    unfold safeStopPlaced
    rw [placeSafeStop_eq]
    rfl
  unfold ItemWaits
  rw [queue]
  constructor
  · rintro ⟨i, hi, rfl⟩
    exact (safeStopQueue_rest _ _ i hi).imp And.right fun ⟨hq, hk⟩ => ⟨⟨i, hq, rfl⟩, hk⟩
  · rintro (hd | ⟨⟨i, hi, rfl⟩, hk⟩)
    · exact ⟨⟨d, true⟩, List.mem_append_left _ (List.mem_map.mpr ⟨d, hd, rfl⟩), rfl⟩
    · refine ⟨i, List.mem_append_right _ (List.mem_filter.mpr ⟨hi, ?_⟩), rfl⟩
      simp only [Bool.not_eq_true', List.any_eq_false, hasKey, beq_iff_eq]
      exact fun c hc e => hk c hc e.symm

/-- A group after a safe stop. -/
theorem groupOf_safeStopPlaced (g : Fin 7) (s : State) :
    groupOf (safeStopPlaced s) g = haltedGroup s (groupOf s g) := by
  unfold safeStopPlaced
  rw [placeSafeStop_eq]
  simp [groupOf, haltGroups, State.onAbu, mapTable]

/-- An order waits after a safe stop when it waited before, or the safe stop gives one. -/
theorem orderWaits_safeStopPlaced (g : Fin 7) (s : State) :
    orderWaits (safeStopPlaced s) g = ((haltOrder (groupOf s g)).isSome || orderWaits s g) := by
  rw [Bool.eq_iff_iff, Bool.or_eq_true, orderWaits_iff, orderWaits_iff, Option.isSome_iff_exists]
  simp only [itemWaits_safeStopPlaced, ← groupOrder_mem_safeStopSet]
  constructor
  · rintro ⟨o, t, h | ⟨h, -⟩⟩
    · exact .inl ⟨o, t, h⟩
    · exact .inr ⟨o, t, h⟩
  · rintro (⟨o, t, h⟩ | ⟨o, t, h⟩)
    · exact ⟨o, t, .inl h⟩
    · by_cases replaced : ∃ p q, Command.groupOrder g p q ∈ safeStopSet s
      · obtain ⟨p, q, h⟩ := replaced
        exact ⟨p, q, .inl h⟩
      · refine ⟨o, t, .inr ⟨h, fun c hc hk => replaced ?_⟩⟩
        cases c <;> simp only [keyOf, reduceCtorEq, ItemKey.groupOrder.injEq] at hk
        subst hk
        exact ⟨_, _, hc⟩

/-- A RETRACT waits after a safe stop only for a group that the safe stop leaves alone. -/
theorem retractWaits_safeStopPlaced (g : Fin 7) (s : State) (waits : retractWaits (safeStopPlaced s) g = true) :
    haltOrder (groupOf s g) = none ∧ retractWaits s g = true := by
  obtain ⟨t, ht⟩ := (retractWaits_iff _ g).mp waits
  rcases (itemWaits_safeStopPlaced _ s).mp ht with placed | ⟨before, other⟩
  · exact absurd ((groupOrder_mem_safeStopSet s g _).mp ⟨t, placed⟩) (haltOrder_ne_retract _)
  · refine ⟨?_, (retractWaits_iff s g).mpr ⟨t, before⟩⟩
    by_contra given
    obtain ⟨o, ho⟩ := Option.ne_none_iff_exists'.mp given
    obtain ⟨q, hq⟩ := (groupOrder_mem_safeStopSet s g o).mpr ho
    exact other _ hq rfl

/-- The safe-stop items keep the keys apart. -/
theorem safeStopPlaced_keys (s : State) (h : KeysOnce s) : KeysOnce (safeStopPlaced s) := by
  have queue : (safeStopPlaced s).mlp.queue = safeStopQueue (safeStopSet s) s.mlp.queue := by
    unfold safeStopPlaced
    rw [placeSafeStop_eq]
    rfl
  unfold KeysOnce queuedKeys
  rw [queue, safeStopQueue, List.map_append, List.map_map]
  refine List.Nodup.append (safeStopSet_keys s) (h.sublist (List.filter_sublist.map _)) fun k hk hk' => ?_
  obtain ⟨c, hc, rfl⟩ := List.mem_map.mp hk
  obtain ⟨i, hi, hik⟩ := List.mem_map.mp hk'
  have apart := (List.mem_filter.mp hi).2
  simp only [Bool.not_eq_true', List.any_eq_false, hasKey, beq_iff_eq] at apart
  exact apart c hc hik

/-- A group's record after a safe stop, as the laws see it. -/
theorem haltedGroup_fields (s : State) (x : Group) :
    (haltedGroup s x).lock = x.lock ∧
      (haltedGroup s x).orderQueued = ((haltOrder x).isSome || x.orderQueued) ∧
      ((haltedGroup s x).state = .retracting → x.state = .retracting) ∧
      ((haltedGroup s x).state = .retracted → x.state = .retracted) := by
  unfold haltedGroup
  split
  · rename_i o ho
    have given : o ≠ .retract := fun e => haltOrder_ne_retract x (e ▸ ho)
    rw [ho]
    refine ⟨rfl, rfl, fun h => ?_, fun h => ?_⟩ <;> cases o <;> simp [orderedGroup, orderedState] at h given
  · rename_i none
    rw [none]
    split <;> simp

/-- A safe stop withdraws every RETRACT that waits for a group on its way out, and gives none. -/
theorem safeStopPlaced_ordered (s : State) : GroupsOrdered s (safeStopPlaced s) where
  resumePhase := by unfold safeStopPlaced; rw [placeSafeStop_eq]; rfl
  haltCause := by unfold safeStopPlaced; rw [placeSafeStop_eq]; rfl
  tx := by unfold safeStopPlaced; rw [placeSafeStop_eq]; rfl
  requests := by
    unfold safeStopPlaced
    rw [placeSafeStop_eq]
    unfold toldClp withEvent
    split
    · rfl
    · split <;> rfl
  keys := safeStopPlaced_keys s
  orders law g := by
    rw [groupOf_safeStopPlaced, (haltedGroup_fields s _).2.1, orderWaits_safeStopPlaced]
    exact congrArg _ (law g)
  noRetract g none := by
    by_contra waits
    exact absurd (retractWaits_safeStopPlaced g s (by simpa using waits)).2 (by simp [none])
  locks law g locked := by
    obtain ⟨lock, -, moving, out⟩ := haltedGroup_fields s (groupOf s g)
    rw [groupOf_safeStopPlaced, lock] at locked
    obtain ⟨notMoving, notOut, none⟩ := law g locked
    rw [groupOf_safeStopPlaced]
    refine ⟨fun h => notMoving (moving h), fun h => notOut (out h), ?_⟩
    by_contra waits
    exact absurd (retractWaits_safeStopPlaced g s (by simpa using waits)).2 (by simp [none])
  held g locked := by
    rw [groupOf_safeStopPlaced, (haltedGroup_fields s _).1]
    exact locked

/-- After a safe stop no RETRACT waits. -/
theorem safeStopPlaced_noRetract (s : State) (law : OrderLaw s)
    (leaving : ∀ g, retractWaits s g = true → (groupOf s g).state = .retracting ∨ (groupOf s g).state = .retracted)
    (g : Fin 7) : retractWaits (safeStopPlaced s) g = false := by
  by_contra waits
  obtain ⟨none, before⟩ := retractWaits_safeStopPlaced g s (by simpa using waits)
  have queued : (groupOf s g).orderQueued = true := by
    obtain ⟨t, ht⟩ := (retractWaits_iff s g).mp before
    rw [law g, orderWaits_iff]
    exact ⟨_, t, ht⟩
  rcases leaving g before with h | h <;> simp [haltOrder, h, queued] at none

/-! ## Entry into HALTED (R16, R17) -/

/-- The ABU in HALTED, before the rate follows (R16). -/
def haltMarked (c : HaltCause) (s : State) : State :=
  s.onAbu fun a =>
    { a with
      phase := .halted, resumePhase := some s.abu.phase, haltCause := some c, furtherCauses := 0, rateSent := 0 }

/-- HALTED announced. -/
theorem BuildKept.haltAnnounced (c : HaltCause) (s : State) : BuildKept (haltMarked c s) (haltAnnounced c s) :=
  .after (of_same (by rfl)) ((queueEvent _ _).after (recomputeRate _))

/-- Entry into HALTED. -/
theorem StepKept.enterHalted (c : HaltCause) (s : State) (hp : s.abu.phase ≠ .halted) : StepKept s (enterHalted c s) := by
  have announced := BuildKept.haltAnnounced c s
  have placed := safeStopPlaced_ordered (haltAnnounced c s)
  have rested : OrderedOn (safeStopPlaced (haltAnnounced c s)) (Machine.enterHalted c s) := by
    rw [enterHalted_eq]
    exact (BuildKept.after (.of_same (by rfl)) (.cutterHalt _)).orderedOn
  have given : GroupsOrdered (haltMarked c s) (Machine.enterHalted c s) :=
    (announced.orderedOn.toGroupsOrdered.trans placed).trans rested.toGroupsOrdered
  have placedAbu : (safeStopPlaced (haltAnnounced c s)).abu =
      { (haltAnnounced c s).abu with groups := (safeStopPlaced (haltAnnounced c s)).abu.groups } := by
    unfold safeStopPlaced
    rw [placeSafeStop_eq]
    rfl
  have phase : (Machine.enterHalted c s).abu.phase = .halted := by
    rw [rested.phase, placedAbu]
    exact announced.phase
  refine ⟨⟨fun laws => .of_noRetract (given.keys laws.keys) (given.orders laws.orders) ?_ ?_ ?_, fun _ => given.locks,
    .inl given.tx, fun h => by rw [given.requests]; exact h⟩, given.held⟩
  · have resume : (Machine.enterHalted c s).abu.resumePhase = some s.abu.phase := given.resumePhase
    have cause : (Machine.enterHalted c s).abu.haltCause = some c := given.haltCause
    simp [HaltLaw, phase, resume, cause, hp]
  · have resume : (Machine.enterHalted c s).abu.resumePhase = some s.abu.phase := given.resumePhase
    have before : cyclePhase s = s.abu.phase := by simp [cyclePhase, (laws.halt.running hp).1]
    have tables : (Machine.enterHalted c s).abu.buildOrder = s.abu.buildOrder ∧
        (Machine.enterHalted c s).abu.expected = s.abu.expected ∧
        (Machine.enterHalted c s).abu.sectors = s.abu.sectors := by
      rw [rested.buildOrder, rested.expected, rested.sectors, placedAbu]
      exact ⟨announced.buildOrder, announced.expected, announced.sectors⟩
    have law := laws.seating
    unfold SeatingLaw at law ⊢
    unfold cyclePhase expectedSector sectorOf
    rw [before] at law
    rw [tables.1, tables.2.1, tables.2.2, resume]
    exact law
  · intro g
    refine rested.noRetract g (safeStopPlaced_noRetract _ (announced.orderLaw laws.orders) (fun k waits => ?_) g)
    rw [announced.retractWaits] at waits
    rw [announced.state]
    exact (laws.withdrawal k waits).2.2.1

/-- A safe-stop cause in HALTED. -/
theorem BuildKept.furtherCause (c : HaltCause) (s : State) : BuildKept s (furtherCause c s) :=
  (queueEvent _ _).after (.of_figures rfl (of_same (by rfl)))

/-- A NODE or FACE_INVALID cause. -/
theorem StepKept.causeArrives (c : HaltCause) (s : State) : StepKept s (causeArrives c s) := by
  unfold Machine.causeArrives
  split
  · exact of_buildKept (.furtherCause c s)
  · rename_i hp
    split
    · exact enterHalted c s hp
    · exact refl s

/-- The SAFE STOP request. -/
theorem StepKept.requestSafeStop (s : State) : StepKept s (requestSafeStop s) := by
  unfold Machine.requestSafeStop
  split
  · rename_i halted
    have counted := BuildKept.furtherCause .request s
    have placed : OrderedOn (Machine.furtherCause .request s) (safeStopPlaced (Machine.furtherCause .request s)) := by
      have given := safeStopPlaced_ordered (Machine.furtherCause .request s)
      refine ⟨given, ?_, ?_, ?_, ?_⟩ <;> (unfold safeStopPlaced; rw [placeSafeStop_eq]; rfl)
    have given : OrderedOn s (resendSafeStop (Machine.furtherCause .request s)) := counted.orderedOn.trans placed
    exact of_groupsOrdered given.toGroupsOrdered (fun laws => laws.noRetract (by simp [halted]))
      (fun laws => given.haltLaw laws.halt) fun laws => given.seatingLaw laws.seating
  · rename_i hp
    exact enterHalted _ s hp

/-- An overtorque trip. -/
theorem StepKept.tripCutter (s : State) : StepKept s (tripCutter s) := by
  have posted := BuildKept.cutterTripped s
  rw [tripCutter_eq]
  split
  · exact of_buildKept ((BuildKept.furtherCause _ _).after posted)
  · rename_i hp
    exact (enterHalted _ _ (by rw [posted.phase]; exact hp)).after (of_buildKept posted)

/-- A CUTTER sample. -/
theorem StepKept.cutterSample (x : CutterSample) (s : State) : StepKept s (cutterSample x s) := by
  have judged (t : State) : StepKept t (judgeRunning x t) := by
    unfold judgeRunning
    split
    · exact tripCutter t
    · exact of_buildKept (.judgeTorque _ t)
  have checked (t : State) : StepKept t (checkCutter x t) := by
    unfold checkCutter
    split
    · split
      · exact (judged _).after (of_buildKept (.of_same (by rfl)))
      · exact refl t
    · split
      · exact judged t
      · exact of_buildKept (.cutterDropOut _ t)
    · split
      · exact of_buildKept ((BuildKept.postCaps _ _).after (.of_same (by rfl)))
      · exact refl t
    all_goals exact refl t
  rw [cutterSample_eq]
  exact (checked _).after (of_buildKept (.sampledCutter x s))

end Sys2Proof.Machine
end

section
/-! SUPPORT. The laws of withdrawal and of locks through the bore cycle: stroke end, THRUST samples, ENTER BUILD, RESUME and
the plan that becomes active (R3, R9 to R13, R20, R59). -/

namespace Sys2Proof.Machine

/-! ## Outside a build -/

/-- A phase outside a build is not BUILDING. -/
theorem not_building_of_outside {p : Phase} (h : buildPhase p = false) : p ≠ .building := by
  rintro rfl
  exact absurd h (by simp [buildPhase])

/-- Outside BUILDING the laws ask nothing of the face and of the settings. -/
theorem StepKept.of_ordersKept {s u : State} (h : OrdersKept s u) (hp : s.abu.phase ≠ .building) : StepKept s u :=
  of_groupsOrdered h.orderedOn.toGroupsOrdered (fun laws => laws.noRetract hp) (fun laws => h.haltLaw laws.halt)
    fun laws => h.seatingLaw laws.seating

/-- A change between two phases outside a build. -/
theorem StepKept.changePhase (p : Phase) (s : State) (hs : buildPhase s.abu.phase = false) (running : s.abu.phase ≠ .halted)
    (hp : buildPhase p = false) (halt : p ≠ .halted) : StepKept s (changePhase p s) := by
  have phase : (Machine.changePhase p s).abu.phase = p := (BuildKept.changePhase p s).phase
  exact of_outside (.changePhase p s) (fun laws => laws.noRetract (not_building_of_outside hs)) running
    (by rw [phase]; exact hp) (by rw [phase]; exact halt)

/-- The activation of a waiting plan in IDLE. -/
theorem StepKept.activateInIdle (s : State) : StepKept s (activateInIdle s) := by
  unfold Machine.activateInIdle
  split
  · rename_i idle
    have active := BuildKept.activateHead s
    refine (changePhase .ready _ ?_ ?_ rfl (by simp)).after (of_buildKept active) <;> rw [active.phase, idle.1] <;>
      simp [buildPhase]
  · exact refl s

/-- The phase of a commissioned device. -/
theorem StepKept.enterCommissioned (s : State) (hs : buildPhase s.abu.phase = false) (running : s.abu.phase ≠ .halted) :
    StepKept s (enterCommissioned s) := by
  unfold Machine.enterCommissioned
  split
  · exact changePhase .ready s hs running rfl (by simp)
  · exact (activateInIdle _).after (changePhase .idle s hs running rfl (by simp))

/-! ## Stroke end (R10, R12) -/

/-- The lines at entry into STROKE_END and at RESUME are no part of the build. -/
theorem BuildKept.strokeEndLines (s : State) : BuildKept s (strokeEndLines s) := of_same (by rfl)

/-- The lines at RESUME. -/
theorem BuildKept.resumeLines (s : State) : BuildKept s (resumeLines s) := of_same (by rfl)

/-- The lines at START. -/
theorem BuildKept.startLines (s : State) : BuildKept s (startLines s) := of_same (by rfl)

/-- The advance part of the OPEN record. -/
theorem BuildKept.postAdvance (f : AdvancePart → AdvancePart) (s : State) : BuildKept s (postAdvance f s) := of_same (by rfl)

/-- Entry into STROKE_END gives no RETRACT. -/
theorem OrderedOn.enterStrokeEnd (s : State) : OrderedOn (withPhase .strokeEnd s) (enterStrokeEnd s) := by
  have posted := (BuildKept.postAdvance (fun p => { p with length := lengthAchieved s }) _).after
    ((BuildKept.queueEvent (.strokeEnded (lengthAchieved s)) _).after (.setPhase .strokeEnd s))
  have held := (orderGroups .hold (by simp) (fun x => x.state == .pushing) _).after posted.orderedOn
  have rested (t : State) :
      BuildKept t (muckStrokeEnd (issueAll (strokeEndLines (screwStrokeEnd (cutterStrokeEnd t))))) :=
    (BuildKept.muckStrokeEnd _).after ((BuildKept.issueAll _).after ((BuildKept.strokeEndLines _).after
      ((BuildKept.screwStrokeEnd _).after (.cutterStrokeEnd t))))
  unfold Machine.enterStrokeEnd
  exact (rested _).orderedOn.after held

/-- Entry into STROKE_END from BORING. -/
theorem StepKept.enterStrokeEnd (s : State) (hp : s.abu.phase = .boring) : StepKept s (enterStrokeEnd s) := by
  have given := OrderedOn.enterStrokeEnd s
  have phase : (Machine.enterStrokeEnd s).abu.phase = .strokeEnd := given.phase
  exact of_outside (given.toGroupsOrdered.after (.withPhase _ s)) (fun laws => laws.noRetract (by simp [hp])) (by simp [hp])
    (by simp [phase, buildPhase]) (by simp [phase])

/-- The check of the stroke target. -/
theorem StepKept.checkTarget (s : State) : StepKept s (checkTarget s) := by
  unfold Machine.checkTarget
  split
  · exact refl s
  · split
    · rename_i reached
      exact enterStrokeEnd s reached.1
    · exact refl s

/-! ## THRUST samples (R9, R59) -/

/-- One advance increment. -/
theorem StepKept.advanceIncrement (position : Int) (mm : Nat) (s : State) : StepKept s (advanceIncrement position mm s) := by
  have moved : BuildKept s (s.onAbu fun a => { a with advanceRef := some position }) := .of_figures rfl (.of_same (by rfl))
  have accounted := ((BuildKept.muckAdvance mm _).after (.groutAdvance mm _)).after moved
  have posted := (BuildKept.postAdvance (fun p => { p with length := position - s.abu.strokeStart }) _).after accounted
  unfold Machine.advanceIncrement
  exact (checkTarget _).after (of_buildKept posted)

/-- The reported position. -/
theorem StepKept.takePosition (position : Int) (s : State) : StepKept s (takePosition position s) := by
  have known : StepKept s (s.onAbu fun a => { a with advanceRef := some position }) :=
    of_buildKept (.of_figures rfl (.of_same (by rfl)))
  unfold Machine.takePosition
  split
  · exact known
  · split
    · exact advanceIncrement _ _ s
    · exact refl s
  · exact known

/-- The checks that follow changes of group states. -/
theorem StepKept.checkAfterMoves (before : List GroupState) (s : State) : StepKept s (checkAfterMoves before s) := by
  unfold Machine.checkAfterMoves
  split
  · exact refl s
  · exact (checkClosure _).after (CheckedKept.checkStay s).stepKept

/-- A THRUST sample. -/
theorem StepKept.thrustSample (x : ThrustSample) (s : State) : StepKept s (thrustSample x s) := by
  have handed : BuildKept s (s.onFbu fun f => { f with v := clampNat 0 200 x.rate }) := .of_same (by rfl)
  have stored := (of_buildKept (.storePositions x _)).after ((takePosition x.position _).after (of_buildKept handed))
  exact (checkAfterMoves _ _).after ((endMoves _).after stored)

/-! ## ENTER BUILD (R13, R63) -/

/-- The build's tables at ENTER BUILD. -/
def buildTabled (k : Fin 7) (s : State) : State :=
  s.onAbu fun a =>
    { a with buildOrder := some (buildOrderOf k), sectors := Vector.replicate 7 Sector.reset, suspensions := 0 }

/-- The build's tables give the expected sector, and its item is placed. -/
theorem BuildKept.startBuild (k : Fin 7) (s : State) :
    BuildKept ((buildTabled k s).onAbu fun a => { a with expected := expectedSector (buildTabled k s) })
      (startBuild k s) :=
  nextSector _ _

/-- Entry into BUILDING from STROKE_END. -/
theorem StepKept.enterBuild (p : ActivePlan) (s : State) (hp : s.abu.phase = .strokeEnd) :
    StepKept s (enterBuild p s) := by
  have phased := BuildKept.setPhase .building s
  have started := BuildKept.startBuild p.plan.keySector (setPhase .building s)
  have given : GroupsOrdered s (startBuild p.plan.keySector (setPhase .building s)) :=
    started.orderedOn.toGroupsOrdered.after ((GroupsOrdered.of_onAbu _ _ (by rfl) (by rfl) (by rfl)).after
      ((GroupsOrdered.of_onAbu _ _ (by rfl) (by rfl) (by rfl)).after
        (phased.orderedOn.toGroupsOrdered.after (.withPhase _ s))))
  have phase : (startBuild p.plan.keySector (setPhase .building s)).abu.phase = .building := by
    rw [started.phase]
    exact phased.phase
  refine (of_buildKept (.followPhase _)).after (of_groupsOrdered given (fun laws => laws.noRetract (by simp [hp]))
    (fun laws => given.haltLaw laws.halt (by simp [hp]) (by simp [phase])) fun _ => started.seatingLaw ?_)
  refine fun _ => ⟨rfl, fun k offset => absurd offset ?_⟩
  simp [sectorOf, buildTabled, State.onAbu_abu, Sector.reset]

/-! ## RESUME (R20) -/

/-- HALTED cleared, before the resumed phase is entered (R20). -/
def haltCleared (s : State) : State :=
  s.onAbu fun a => { a with haltCause := none, furtherCauses := 0, resumePhase := none }

/-- The RESUME announced in HALTED (R20). -/
def resumeTold (p : Phase) (s : State) : State :=
  queueEvent (.resumed (resumedPhase p)) (haltCleared (releaseTrip s))

/-- Beside the halt cause and the resume phase, the announcement leaves the build. -/
theorem BuildKept.resumeTold (p : Phase) (s : State) : BuildKept (haltCleared s) (resumeTold p s) := by
  refine (queueEvent _ _).after ?_
  unfold releaseTrip
  split
  · exact of_same (by rfl)
  · exact refl _

/-- Orders other than RETRACT that lead out of HALTED. -/
theorem StepKept.of_resumed {s u : State} (h : GroupsOrdered (haltCleared s) u) (hs : s.abu.phase = .halted)
    (hu : BuildLaws s → u.abu.phase ≠ .halted) (seating : BuildLaws s → SeatingLaw u) : StepKept s u where
  laws x := .of_noRetract (h.keys x.keys) (h.orders x.orders) (haltLaw_of_running (hu x) h.resumePhase h.haltCause)
    (seating x) fun g => h.noRetract g (x.noRetract (by simp [hs]) g)
  locks _ := h.locks
  tx := .inl h.tx
  requests x := by rw [h.requests]; exact x
  held := h.held

/-- RESUME into BORING. -/
theorem StepKept.resumeBoring (p : Phase) (s : State) (hs : s.abu.phase = .halted) :
    StepKept s (resumeBoring (resumeTold p s)) := by
  have capped (t : State) : BuildKept t (postCabin (.rate 0) t) := .postCaps _ t
  have pushed := (OrderedOn.orderGroups .push (by simp) (fun x => x.state == .holding) _).after
    (capped (resumeTold p s)).orderedOn
  have readied (t : State) : BuildKept t (resumeLines (orderGate .open (startCutter t))) :=
    (BuildKept.resumeLines _).after ((BuildKept.orderGate .open _).after (.startCutter t))
  have phased (t : State) : BuildKept (withPhase .boring t) (followPhase (setPhase .boring t)) :=
    (BuildKept.followPhase _).after (.setPhase _ t)
  have bored (t : State) : GroupsOrdered t (followPhase (setPhase .boring t)) :=
    (phased t).orderedOn.toGroupsOrdered.after (.withPhase .boring t)
  have given := (bored _).after (((readied _).orderedOn.after pushed).toGroupsOrdered.after
    (BuildKept.resumeTold p s).orderedOn.toGroupsOrdered)
  unfold Machine.resumeBoring
  have phase (t : State) : (followPhase (setPhase .boring t)).abu.phase = .boring := (phased t).phase
  exact (checkTarget _).after (of_resumed given hs (fun _ => by rw [phase]; simp) fun _ =>
    seatingLaw_of_outside (by rw [phase]; rfl) given.resumePhase)

/-- RESUME into another phase, by a change of phase alone. -/
theorem StepKept.resumePhase (p q : Phase) (s : State) (hs : s.abu.phase = .halted) (hr : s.abu.resumePhase = some p)
    (hq : BuildLaws s → q ≠ .halted) (build : buildPhase q = true → buildPhase p = true) :
    StepKept s (Machine.changePhase q (resumeTold p s)) := by
  have given : OrderedOn (withPhase q (resumeTold p s)) (Machine.changePhase q (resumeTold p s)) :=
    (BuildKept.changePhase q _).orderedOn
  have told := BuildKept.resumeTold p s
  have phase : (Machine.changePhase q (resumeTold p s)).abu.phase = q := given.phase
  have resume : (Machine.changePhase q (resumeTold p s)).abu.resumePhase = none := given.resumePhase.trans told.resumePhase
  refine of_resumed ((GroupsOrdered.changePhase q _).after told.orderedOn.toGroupsOrdered) hs
    (fun laws => by rw [phase]; exact hq laws) fun laws => ?_
  by_cases hb : buildPhase q = true
  · have before : cyclePhase s = .building ∨ cyclePhase s = .buildSuspended := by
      have inBuild := build hb
      rw [cyclePhase, hr]
      cases p <;> simp_all [buildPhase]
    obtain ⟨expected, offset⟩ := laws.seating before
    have tables : OrderedOn (withPhase q (haltCleared s)) (withPhase q (resumeTold p s)) :=
      { phase := rfl, buildOrder := told.buildOrder, expected := told.expected, sectors := told.sectors
        resumePhase := told.resumePhase, haltCause := told.haltCause, tx := told.tx, requests := told.requests
        keys := told.keys
        orders := told.orderLaw
        noRetract := told.orderedOn.noRetract
        locks := told.lockLaw
        held := told.orderedOn.held }
    exact (given.after tables).seatingLaw fun _ => ⟨expected, offset⟩
  · exact seatingLaw_of_outside (by rw [phase]; simpa using hb) resume

/-- RESUME. -/
theorem StepKept.resumeCycle (p : Phase) (s : State) (hs : s.abu.phase = .halted) (hr : s.abu.resumePhase = some p) :
    StepKept s (resumeCycle p s) := by
  unfold Machine.resumeCycle
  simp only
  split
  · exact resumeBoring p s hs
  · exact (activateInIdle _).after (resumePhase p .idle s hs hr (fun _ => by simp) (by simp [buildPhase]))
  · refine resumePhase p _ s hs hr (fun laws => ?_) ?_
    · have running : p ≠ .halted := fun e => laws.halt.2.2 (e ▸ hr)
      cases p <;> simp [resumedPhase] at running ⊢
    · cases p <;> simp [resumedPhase, buildPhase]

end Sys2Proof.Machine
end

section
/-! SUPPORT. The laws of withdrawal and of locks through seats, withdrawals and ACCEPT (R63, R66 to R72). -/

namespace Sys2Proof.Machine

/-! ## The expected sector after a seat (R63) -/

/-- The expected sector is not seated. -/
theorem not_seated_of_expected {s : State} {k : Fin 7} (h : expectedSector s = some k) : seated (sectorOf s k) = false := by
  unfold expectedSector at h
  split at h
  · exact absurd h (by simp)
  · simpa using List.find?_some h

/-- The expected sector looks at which sectors are seated alone. -/
theorem expectedSector_congr {s u : State} (order : u.abu.buildOrder = s.abu.buildOrder)
    (same : ∀ k, seated (sectorOf u k) = seated (sectorOf s k)) : expectedSector u = expectedSector s := by
  unfold expectedSector
  rw [order]
  simp only [same]

/-- A new record of the expected sector, with the expected sector formed from it, keeps the law of the expected sector. -/
theorem seatingLaw_of_seated {s u : State} {k : Fin 7} (law : SeatingLaw s) (hs : cyclePhase s = .building)
    (hk : s.abu.expected = some k) (order : u.abu.buildOrder = s.abu.buildOrder)
    (others : ∀ j, j ≠ k → sectorOf u j = sectorOf s j) (formed : u.abu.expected = expectedSector u) : SeatingLaw u := by
  obtain ⟨expected, offset⟩ := law (.inl hs)
  refine fun _ => ⟨formed, fun j hj => ?_⟩
  by_cases e : j = k
  · subst e
    rw [formed, ← hk, expected]
    refine expectedSector_congr order fun i => ?_
    by_cases e : i = j
    · subst e
      rw [not_seated_of_expected (expected.symm.trans hk)]
      simp [seated, hj]
    · rw [others i e]
  · exact absurd (hk.symm.trans (offset j (others j e ▸ hj))) (by simpa using Ne.symm e)

/-! ## Locks (R72) -/

/-- A lock set on a group that stands, with no RETRACT waiting for it. -/
theorem StepKept.lockGroup (k : Fin 7) (s : State) (moving : (groupOf s k).state ≠ .retracting)
    (out : (groupOf s k).state ≠ .retracted) (none : BuildLaws s → retractWaits s k = false) :
    StepKept s (onGroup k (fun x => { x with lock := true }) s) := by
  have group (g : Fin 7) : groupOf (onGroup k (fun x => { x with lock := true }) s) g =
      if g = k then { groupOf s k with lock := true } else groupOf s g := groupOf_onGroup ..
  have state (g : Fin 7) : (groupOf (onGroup k (fun x => { x with lock := true }) s) g).state = (groupOf s g).state := by
    rw [group]
    split
    · rename_i e
      rw [e]
    · rfl
  have held (g : Fin 7) (locked : (groupOf s g).lock = true) :
      (groupOf (onGroup k (fun x => { x with lock := true }) s) g).lock = true := by
    rw [group]
    split
    · rfl
    · exact locked
  have given (laws : BuildLaws s) : OrderedOn s (onGroup k (fun x => { x with lock := true }) s) :=
    { phase := rfl, resumePhase := rfl, haltCause := rfl, buildOrder := rfl, expected := rfl, sectors := rfl
      tx := rfl, requests := rfl, keys := fun x => x, noRetract := fun _ x => x, held := held
      orders := fun law g => by
        rw [group]
        split
        · rename_i e
          exact e ▸ law g
        · exact law g
      locks := fun law g locked => by
        rw [state]
        by_cases e : g = k
        · subst e
          exact ⟨moving, out, none laws⟩
        · rw [group, if_neg e] at locked
          exact law g locked }
  refine ⟨⟨fun laws => laws.advance (given laws) rfl rfl ?_ ?_, fun laws => (given laws).locks, .inl rfl, fun x => x⟩, held⟩
  · exact fun g h => by rw [state]; exact h
  · exact fun g _ h => by rw [state]; exact h

/-! ## Seats (R70) -/

/-- The state with a sector's new record and the expected sector formed from it. -/
def sectorFormed (k : Fin 7) (x : Sector) (s : State) : State :=
  (onSector k (fun _ => x) s).onAbu fun a => { a with expected := expectedSector (onSector k (fun _ => x) s) }

/-- A sector's new record is beside the groups. -/
theorem GroupsOrdered.sectorFormed (k : Fin 7) (x : Sector) (s : State) : GroupsOrdered s (sectorFormed k x s) :=
  .of_onAbu (fun a =>
    { a with
      sectors := (onSector k (fun _ => x) s).abu.sectors, expected := expectedSector (onSector k (fun _ => x) s) }) s rfl rfl
    rfl

/-- A new record of the expected sector in BUILDING. -/
theorem seatingLaw_sectorFormed {k : Fin 7} (x : Sector) {s : State} (law : SeatingLaw s) (hs : cyclePhase s = .building)
    (hk : s.abu.expected = some k) : SeatingLaw (sectorFormed k x s) := by
  refine seatingLaw_of_seated law hs hk rfl (fun j hj => ?_) rfl
  have other := sectorOf_onSector k j (fun _ => x) s
  rw [if_neg hj] at other
  exact other

/-- In BUILDING the phase of the cycle is BUILDING. -/
theorem BuildLaws.cyclePhase {s : State} (laws : BuildLaws s) (hp : s.abu.phase = .building) : cyclePhase s = .building := by
  rw [Machine.cyclePhase, (laws.halt.running (by simp [hp])).1, hp]
  rfl

/-- In BUILDING a RETRACT waits for the expected sector's group alone. -/
theorem BuildLaws.noRetract_of_expected {s : State} (laws : BuildLaws s) {k g : Fin 7} (hk : s.abu.expected = some k)
    (hg : g ≠ k) : retractWaits s g = false := by
  by_contra waits
  obtain ⟨-, expected, -⟩ := laws.withdrawal g (by simpa using waits)
  exact hg (Option.some.inj (expected.symm.trans hk))

/-- The expected sector seated with its group ordered to SHOVE: no RETRACT waits on. -/
theorem StepKept.seatShoved (k : Fin 7) (x : Sector) (s : State) (hp : s.abu.phase = .building)
    (hk : s.abu.expected = some k) : StepKept s (Machine.orderGroup k .shove (sectorFormed k x s)) := by
  have shoved := OrderedOn.orderGroup k .shove (by simp) (sectorFormed k x s)
  have given := shoved.toGroupsOrdered.after (.sectorFormed k x s)
  have phase : (Machine.orderGroup k .shove (sectorFormed k x s)).abu.phase = .building := hp
  refine of_noRetract given (fun laws g => ?_) (fun laws => given.haltLaw laws.halt (by simp [hp]) (by simp [phase]))
    fun laws => shoved.seatingLaw (seatingLaw_sectorFormed x laws.seating (laws.cyclePhase hp) hk)
  rw [retractWaits_orderGroup]
  split
  · simp
  · rename_i other
    exact laws.noRetract_of_expected hk other

/-- Two changes of one group are one change. -/
theorem onGroup_onGroup (g : Fin 7) (f h : Group → Group) (s : State) :
    onGroup g f (onGroup g h s) = onGroup g (fun x => f (h x)) s := by
  unfold onGroup State.onAbu updateAt
  simp

/-- An order to a group and its lock are independent of one another. -/
theorem orderGroup_lock (k : Fin 7) (o : GroupOrder) (s : State) :
    orderGroup k o (onGroup k (fun x => { x with lock := true }) s) =
      onGroup k (fun x => { x with lock := true }) (orderGroup k o s) := by
  have groups : onGroup k (orderedGroup s o) (onGroup k (fun x => { x with lock := true }) s) =
      onGroup k (fun x => { x with lock := true }) (onGroup k (orderedGroup s o) s) := by
    rw [onGroup_onGroup, onGroup_onGroup]
    rfl
  exact congrArg (placeItem (groupCommand s k o)) groups

/-- The expected sector seated: its group ordered to SHOVE, and locked within the tolerance. -/
theorem StepKept.seatTaken (k : Fin 7) (gap : Nat) (s : State) (hp : s.abu.phase = .building)
    (hk : s.abu.expected = some k) : StepKept s (formExpected (Machine.orderGroup k .shove (seatSector k gap s))) := by
  refine (of_buildKept (.formExpected _)).after ?_
  unfold seatSector
  simp only
  split
  · rw [orderGroup_lock]
    refine (lockGroup k _ ?_ ?_ ?_).after (seatShoved k _ s hp hk)
    · rw [groupOf_orderGroup, if_pos rfl]; simp [orderedGroup, orderedState]
    · rw [groupOf_orderGroup, if_pos rfl]; simp [orderedGroup, orderedState]
    · intro _
      rw [retractWaits_orderGroup, if_pos rfl]
      simp
  · exact (of_buildKept (.queueEvent _ _)).after (seatShoved k _ s hp hk)

/-- A seat report is taken on the expected sector in BUILDING alone. -/
theorem seatRejection_none {s : State} {n : Nat} (h : n < 7) (taken : seatRejection s n = none) :
    s.abu.phase = .building ∧ s.abu.expected = some ⟨n, h⟩ := by
  unfold seatRejection at taken
  split_ifs at taken
  simp_all

/-- A seat report. -/
theorem StepKept.seatReport (sector gap : Nat) (s : State) : StepKept s (seatReport sector gap s) := by
  unfold Machine.seatReport
  split
  · exact of_buildKept (.queueEvent _ _)
  · rename_i taken
    split
    · rename_i h
      obtain ⟨hp, hk⟩ := seatRejection_none h taken
      exact (CheckedKept.checkStay _).stepKept.after (seatTaken _ gap s hp hk)
    · exact refl s

/-! ## ACCEPT (R68) -/

/-- A sector accepted, its group locked. -/
theorem StepKept.acceptSector (k : Fin 7) (s : State) (hp : s.abu.phase = .building)
    (offset : (sectorOf s k).state = .offset) (standing : (groupOf s k).state = .holding) :
    StepKept s (acceptSector k s) := by
  have given := GroupsOrdered.sectorFormed k { sectorOf s k with state := .accepted } s
  have phase : (sectorFormed k { sectorOf s k with state := .accepted } s).abu.phase = .building := hp
  have expected (laws : BuildLaws s) : s.abu.expected = some k :=
    (laws.seating (.inl (laws.cyclePhase hp))).2 k offset
  have none (laws : BuildLaws s) (g : Fin 7) : retractWaits s g = false := by
    by_cases e : g = k
    · exact e ▸ laws.noRetract_of_holding k standing
    · exact laws.noRetract_of_expected (expected laws) e
  have formed : StepKept s (sectorFormed k { sectorOf s k with state := .accepted } s) :=
    of_groupsOrdered given none (fun laws => given.haltLaw laws.halt (by simp [hp]) (by simp [phase]))
      fun laws => seatingLaw_sectorFormed _ laws.seating (laws.cyclePhase hp) (expected laws)
  have standing' : (groupOf (sectorFormed k { sectorOf s k with state := .accepted } s) k).state = .holding := standing
  have locked := lockGroup k (sectorFormed k { sectorOf s k with state := .accepted } s) (by simp [standing'])
    (by simp [standing']) fun laws => laws.noRetract_of_holding k standing'
  have record : onSector k (fun x => { x with state := .accepted }) s =
      onSector k (fun _ => { sectorOf s k with state := .accepted }) s := by
    unfold onSector updateAt
    rfl
  unfold Machine.acceptSector
  rw [record]
  exact (checkClosure _).after ((of_buildKept (.formExpected _)).after (locked.after formed))

/-! ## Withdrawals (R66, R67) -/

/-- Of seven groups, those that do not hold are the rest. -/
theorem notHolding_le (s : State) (p : Fin 7 → Bool) :
    (allGroups.filter fun k => p k && (groupOf s k).state != .holding).length ≤
      7 - holdingCount s fun _ => true := by
  have total := List.length_eq_length_filter_add (l := allGroups) fun k => (groupOf s k).state == .holding
  have fewer : (allGroups.filter fun k => p k && (groupOf s k).state != .holding).length ≤
      (allGroups.filter fun k => !((groupOf s k).state == .holding)).length := by
    refine (List.monotone_filter_right _ fun k hk => ?_).length_le
    simp only [Bool.and_eq_true] at hk
    exact hk.2
  have seven : allGroups.length = 7 := rfl
  unfold holdingCount
  simp only [Bool.true_and]
  omega

/-- A RETRACT of the expected sector's group, unlocked and HOLDING, within max_retracted. -/
theorem StepKept.withdrawGroup (g : Fin 7) (s : State) (hp : s.abu.phase = .building)
    (unlocked : (groupOf s g).lock = false) (within : 7 - holdingCount s (fun _ => true) < s.cfb.thrust.maxRetracted)
    (expected : BuildLaws s → s.abu.expected = some g) : StepKept s (withdrawGroup g s) := by
  have group (k : Fin 7) := groupOf_orderGroup g k .retract s
  have ordered (laws : BuildLaws s) : UncheckedLaws (Machine.orderGroup g .retract s) := by
    refine ⟨placedQueue_nodup _ s.mlp.queue laws.keys, orderLaw_orderGroup g .retract s laws.orders, laws.halt,
      laws.seating, fun k waits => ?_⟩
    obtain rfl : k = g := by
      by_contra other
      rw [retractWaits_orderGroup, if_neg other, laws.noRetract_of_expected (expected laws) other] at waits
      exact absurd waits (by simp)
    refine ⟨hp, expected laws, .inl (by rw [group, if_pos rfl]; rfl), lt_of_le_of_lt ?_ within⟩
    refine le_of_eq_of_le (congrArg List.length (List.filter_congr fun j _ => ?_)) (notHolding_le s fun j => j != k)
    by_cases e : j = k
    · simp [e]
    · rw [group, if_neg e]
  have locks (laws : BuildLaws s) (law : LockLaw s) : LockLaw (Machine.orderGroup g .retract s) := by
    intro k locked
    by_cases e : k = g
    · subst e
      rw [group, if_pos rfl] at locked
      exact absurd (unlocked.symm.trans locked) (by simp)
    · rw [group, if_neg e] at locked ⊢
      rw [retractWaits_orderGroup, if_neg e]
      exact law k locked
  have checked := CheckedKept.checkStay (Machine.orderGroup g .retract s)
  exact {
    laws := fun h => checked.laws (ordered h)
    locks := fun h law => checked.locks (ordered h) (locks h law)
    tx := checked.tx
    requests := checked.requests
    held := fun k locked => checked.held k (by
      rw [group]
      split
      · rename_i e
        exact e ▸ locked
      · exact locked) }

end Sys2Proof.Machine
end

section
/-! SUPPORT. The laws of withdrawal and of locks through every request: START and RESTART, which open the locks, and the
others, which open none (R5, R22, R58, R72, R146, R155). -/

namespace Sys2Proof.Machine

/-! ## Locks opened by rule (R5, R22, R72) -/

/-- A lock opens with the entry into BORING from READY, or with every group at its reset value. -/
def LocksByRule (s u : State) : Prop :=
  ∀ g : Fin 7, (groupOf s g).lock = true →
    (groupOf u g).lock = true ∨ (s.abu.phase = .ready ∧ u.abu.phase = .boring) ∨
      u.abu.groups = Vector.replicate 7 State.reset.abu.groups[0]

/-- What a request does: the laws are kept, and locks open by rule. -/
structure RequestKept (s u : State) : Prop extends LawsKept s u where
  byRule : LocksByRule s u

/-- A request that opens no lock. -/
theorem StepKept.requestKept {s u : State} (h : StepKept s u) : RequestKept s u where
  toLawsKept := h.toLawsKept
  byRule g locked := .inl (h.held g locked)

/-- A request that leaves everything as it was. -/
theorem RequestKept.refl (s : State) : RequestKept s s := (StepKept.refl s).requestKept

/-- A request on the blocks that the build does not look at. -/
theorem RequestKept.of_buildKept {s u : State} (h : BuildKept s u) : RequestKept s u :=
  (StepKept.of_buildKept h).requestKept

/-! ## START (R5) -/

/-- Locks released outside a build. -/
theorem LawsKept.releaseLocks (s : State) (hp : s.abu.phase = .ready) : LawsKept s (releaseLocks s) := by
  have group (g : Fin 7) : groupOf (Machine.releaseLocks s) g = { groupOf s g with lock := false } := by
    simp [groupOf, Machine.releaseLocks, State.onAbu, mapTable]
  refine ⟨fun laws => .of_noRetract laws.keys (fun g => ?_) laws.halt laws.seating fun g => ?_, fun _ _ g locked => ?_,
    .inl rfl, fun h => h⟩
  · rw [group]
    exact laws.orders g
  · exact laws.noRetract (by simp [hp]) g
  · rw [group] at locked
    exact absurd locked (by simp)

/-- The record opened at START. -/
theorem BuildKept.openRecord (p : ActivePlan) (s : State) : BuildKept s (openRecord p s) := of_same (by rfl)

/-- The stroke start and target. -/
theorem BuildKept.setStroke (s : State) : BuildKept s (setStroke s) := by
  have moved (start target : Int) : BuildKept s (s.onAbu fun a => { a with strokeStart := start, strokeTarget := target }) :=
    .of_figures rfl (.of_same (by rfl))
  unfold Machine.setStroke
  exact (BuildKept.postAdvance _ _).after (moved _ _)

/-- START leads to BORING. -/
theorem startStroke_phase (p : ActivePlan) (s : State) : (startStroke p s).abu.phase = .boring := by
  unfold startStroke
  rw [followPhase_abu]
  exact (setPhase_law _ _).2

/-- START in READY. -/
theorem RequestKept.startStroke (p : ActivePlan) (s : State) (hp : s.abu.phase = .ready) :
    RequestKept s (startStroke p s) := by
  have opened := (BuildKept.openRecord p _).after (.changeGroutRing p.plan.ring s)
  have openedPhase := opened.phase.trans hp
  have released := (StepKept.of_buildKept opened).toLawsKept.trans (.releaseLocks _ openedPhase)
  have capped (t : State) : BuildKept t (postCabin .noLimit t) := .postCaps _ t
  have turned (t : State) : BuildKept t (startCutter (setDirection (setStroke (postCabin .noLimit t)))) :=
    (BuildKept.startCutter _).after ((BuildKept.setDirection _).after ((BuildKept.setStroke _).after (capped t)))
  have readied (t : State) : BuildKept t (muckStart p.plan.ring (startLines (orderGate .open t))) :=
    (BuildKept.muckStart _ _).after ((BuildKept.startLines _).after (.orderGate .open t))
  have phased (t : State) : BuildKept (withPhase .boring t) (followPhase (setPhase .boring t)) :=
    (BuildKept.followPhase _).after (.setPhase _ t)
  have phase (t : State) : (followPhase (setPhase .boring t)).abu.phase = .boring := (phased t).phase
  have bored (t : State) : GroupsOrdered t (followPhase (setPhase .boring t)) :=
    (phased t).orderedOn.toGroupsOrdered.after (.withPhase .boring t)
  have given (t : State) : GroupsOrdered t (followPhase (setPhase .boring (muckStart p.plan.ring (startLines
      (orderGate .open (orderGroups .push (fun _ => true) (startCutter (setDirection (setStroke
        (postCabin .noLimit t)))))))))) := (bored _).after ((readied _).orderedOn.after
    ((OrderedOn.orderGroups .push (by simp) (fun _ => true) _).after (turned t).orderedOn)).toGroupsOrdered
  have started (t : State) (ht : t.abu.phase = .ready) := StepKept.of_outside (given t)
    (fun laws => laws.noRetract (by simp [ht])) (by simp [ht]) (by rw [phase]; rfl) (by rw [phase]; simp)
  refine ⟨?_, fun g _ => .inr (.inl ⟨hp, startStroke_phase p s⟩)⟩
  have left := started (Machine.releaseLocks (Machine.openRecord p (changeGroutRing p.plan.ring s))) openedPhase
  exact released.trans left.toLawsKept

/-! ## RESTART (R22) -/

/-- A recomputation of the rate leaves the groups. -/
theorem recomputeRate_groups (s : State) : (recomputeRate s).abu.groups = s.abu.groups := by rw [recomputeRate_eq]; rfl

/-- A posting to the rate cap table leaves the groups. -/
theorem postCaps_groups (f : Caps → Caps) (s : State) : (postCaps f s).abu.groups = s.abu.groups := by
  unfold postCaps
  split
  · rfl
  · exact recomputeRate_groups _

/-- A posting of the PLAN entry leaves the groups. -/
theorem postPlan_groups (rate : Nat) (s : State) : (postPlan rate s).abu.groups = s.abu.groups := by
  unfold postPlan
  split
  · rfl
  · exact (postCaps_groups _ _).trans (recomputeRate_groups _)

/-- A change of phase leaves the groups. -/
theorem changePhase_groups (p : Phase) (s : State) : (changePhase p s).abu.groups = s.abu.groups := by
  unfold changePhase
  split
  · rfl
  · rw [followPhase_abu]
    exact recomputeRate_groups _

/-- Activation in IDLE leaves the groups. -/
theorem activateInIdle_groups (s : State) : (activateInIdle s).abu.groups = s.abu.groups := by
  unfold activateInIdle
  split
  · rw [changePhase_groups]
    unfold activateHead
    split
    · rfl
    · exact postPlan_groups _ _
  · rfl

/-- The phase of a commissioned device leaves the groups. -/
theorem enterCommissioned_groups (s : State) : (enterCommissioned s).abu.groups = s.abu.groups := by
  unfold enterCommissioned
  split
  · exact changePhase_groups _ s
  · exact (activateInIdle_groups _).trans (changePhase_groups _ s)

/-- The ports at RESTART (log 27). -/
def restartPorts (s : State) : State :=
  ((restartMlp (restartClp s)).onFbu fun f => { Fbu.reset with bias := f.bias }).onChm fun _ => Chm.reset

/-- The job blocks at RESTART leave the build as the ports left it. -/
theorem BuildKept.restartBlocks (s : State) : BuildKept (restartPorts s) (restartBlocks s) :=
  (BuildKept.restartMuck _).after (.restartGrout _)

/-- The whole device at RESTART, before its phase. -/
def restartedDevice (s : State) : State :=
  recomputeRate ((restartBlocks s).onAbu (restartedAbu (planRate (restartBlocks s).rru.active)))

/-- The groups at RESTART are at their reset values. -/
theorem restartedDevice_groups (s : State) : (restartedDevice s).abu.groups = Vector.replicate 7 Group.reset :=
  recomputeRate_groups _

/-- RESTART empties the queue of group orders, and sets the groups and the build's tables anew. -/
theorem LawsKept.restartedDevice (s : State) (hp : buildPhase s.abu.phase = false) (running : s.abu.phase ≠ .halted) :
    LawsKept s (restartedDevice s) ∧ (restartedDevice s).abu.phase = s.abu.phase := by
  have blocks := BuildKept.restartBlocks s
  have rated := BuildKept.recomputeRate
    ((Machine.restartBlocks s).onAbu (restartedAbu (planRate (Machine.restartBlocks s).rru.active)))
  have phase : (Machine.restartedDevice s).abu.phase = s.abu.phase := rated.phase.trans blocks.phase
  have noOrder (g : Fin 7) (o : GroupOrder) (t : Int) : ¬ItemWaits (.groupOrder g o t) (Machine.restartedDevice s) := by
    intro waits
    obtain ⟨i, hi, -⟩ := (blocks.orders g o t).mp ((rated.orders g o t).mp waits)
    exact absurd hi (by simp [restartPorts, restartMlp, State.onMlp])
  have group (g : Fin 7) : groupOf (Machine.restartedDevice s) g = Group.reset := by
    simp [groupOf, restartedDevice_groups]
  have noRetract (g : Fin 7) : retractWaits (Machine.restartedDevice s) g = false := by
    rw [← Bool.not_eq_true, retractWaits_iff]
    exact fun ⟨t, waits⟩ => noOrder g .retract t waits
  have noWait (g : Fin 7) : orderWaits (Machine.restartedDevice s) g = false := by
    rw [← Bool.not_eq_true, orderWaits_iff]
    exact fun ⟨o, t, waits⟩ => noOrder g o t waits
  have empty : KeysOnce (restartPorts s) := List.nodup_nil
  refine ⟨⟨fun _ => .of_noRetract (rated.keys (blocks.keys empty)) (fun g => ?_) ?_ ?_ noRetract, fun _ _ g locked => ?_,
    .inl (rated.tx.trans blocks.tx), fun h => ?_⟩, phase⟩
  · rw [group, noWait]
    rfl
  · exact haltLaw_of_running (by rw [phase]; exact running) rated.resumePhase rated.haltCause
  · exact seatingLaw_of_outside (by rw [phase]; exact hp) rated.resumePhase
  · rw [group] at locked
    exact absurd locked (by simp [Group.reset])
  · have head : (Machine.restartedDevice s).clp.rxQueue = s.clp.rxQueue.take 1 := rated.requests.trans blocks.requests
    rw [head]
    simpa [List.take_eq_nil_iff] using h

/-- RESTART outside a ring. -/
theorem RequestKept.restartCycle (s : State) (hp : buildPhase s.abu.phase = false) (running : s.abu.phase ≠ .halted) :
    RequestKept s (restartCycle s) := by
  obtain ⟨kept, phase⟩ := LawsKept.restartedDevice s hp running
  have entered := StepKept.enterCommissioned (restartedDevice s) (by rw [phase]; exact hp) (by rw [phase]; exact running)
  unfold Machine.restartCycle
  simp only
  split
  · exact ⟨kept, fun _ _ => .inr (.inr (restartedDevice_groups s))⟩
  · exact ⟨kept.trans entered.toLawsKept,
      fun _ _ => .inr (.inr ((enterCommissioned_groups _).trans (restartedDevice_groups s)))⟩

/-! ## Settings (R2, R155, R156, R159) -/

/-- COMMISSION outside a ring. -/
theorem StepKept.commission (s : State) (hp : buildPhase s.abu.phase = false) (running : s.abu.phase ≠ .halted) :
    StepKept s (commission s) := by
  have derived (f : Cfb → Cfb) : StepKept s (s.onCfb f) := of_ordersKept (.of_same (by rfl)) (not_building_of_outside hp)
  have entered (f : Cfb → Cfb) := enterCommissioned (s.onCfb f) hp running
  exact (entered _).after (derived _)

/-- No item beside those of group 2 is a thrust setting (4.8). -/
theorem putSetting_thrust (c : Cfb) (i : SettingItem) (v : Int) (h : i ∉ groupItems 2) :
    (putSetting c i v).thrust = c.thrust := by
  cases i
  case holdMargin | groupForce | maxRetracted | seatTol => exact absurd h (by simp [groupItems])
  all_goals rfl

/-- A write stores no face area (R155). -/
theorem putSetting_aFace (c : Cfb) (i : SettingItem) (v : Int) : (putSetting c i v).aFace = c.aFace := by
  cases i <;> rfl

/-- A thrust setting is an item of group 2 alone, of the groups whose writes are taken in every phase. -/
theorem not_thrust_of_group {group n : Nat} {i : SettingItem} (h : settingItem group n = some i) (hg : 2 < group) :
    i ∉ groupItems 2 := by
  have mem : i ∈ groupItems group := List.mem_of_getElem? h
  intro thrust
  match group, mem with
  | 3, mem | 4, mem | 5, mem | 6, mem | 7, mem =>
    simp only [groupItems, List.mem_cons, List.not_mem_nil, or_false] at mem thrust
    rcases thrust with rfl | rfl | rfl | rfl <;> simp at mem
  | _ + 8, mem => exact absurd mem (by simp [groupItems])

/-- The effect of a write beside its value leaves the build. -/
theorem BuildKept.writeEffect (b : Cfb) (i : SettingItem) (s : State) : BuildKept s (writeEffect b i s) := by
  unfold Machine.writeEffect
  split
  · exact of_same (by rfl)
  · exact (issueChanged _ _).after (of_same (by rfl))
  · split
    · exact refl s
    · exact of_same (by rfl)
  · unfold writePeriod
    split
    · exact of_same (by rfl)
    · split
      · exact of_same (by rfl)
      · exact refl s
  · exact refl s

/-- A write of one item of one value. -/
theorem StepKept.writeSetting (group n : Nat) (i : SettingItem) (v : Int) (s : State)
    (item : settingItem group n = some i) (taken : writesTaken group s.abu.phase = true) :
    StepKept s (writeSetting group i v s) := by
  have stored : StepKept s (s.onCfb fun c => putSetting c i v) := by
    by_cases building : s.abu.phase = .building
    · refine of_buildKept (.onCfb _ s (putSetting_thrust _ _ _ (not_thrust_of_group item ?_)) (putSetting_aFace _ _ _))
      by_contra low
      rw [building] at taken
      unfold writesTaken at taken
      split at taken
      · exact absurd taken (by simp)
      · rw [if_pos (by omega)] at taken
        exact absurd taken (by simp)
    · exact of_ordersKept (.of_same (by rfl)) building
  have effect := (of_buildKept (.writeEffect s.cfb i _)).after stored
  unfold Machine.writeSetting returnToUnconfigured
  split
  · rename_i idle
    exact (changePhase .unconfigured _ (by simp [idle.2, buildPhase]) (by simp [idle.2]) rfl (by simp)).after effect
  · exact effect

/-! ## The owners (R146) -/

/-- A write of the base shares. -/
theorem BuildKept.writeShares (xs : Vector Nat 6) (s : State) : BuildKept s (writeShares xs s) := by
  unfold Machine.writeShares
  exact (issueChanged _ _).after ((recomputeShares _).after (.onCfb _ s rfl rfl))

/-- SET. -/
theorem RequestKept.answerSet (p : List Byte) (s : State) : RequestKept s (answerSet p s).1 := by
  unfold Machine.answerSet
  split
  · exact refl s
  · rename_i i item
    split_ifs
    · exact refl s
    · exact refl s
    · exact refl s
    · unfold setShares
      dsimp only
      exact of_buildKept (.writeShares _ s)
    · rename_i taken _
      have written (v : Int) : StepKept s (Machine.writeSetting (natAt p 0 1) i v s) :=
        .writeSetting _ _ i v s item (by simpa using taken)
      unfold setOne
      dsimp only
      exact (written _).requestKept

/-- COMMISSION. -/
theorem RequestKept.answerCommission (p : List Byte) (s : State) : RequestKept s (answerCommission p s).1 := by
  by_cases outside : s.abu.phase = .unconfigured ∨ s.abu.phase = .idle
  · have commissioned : RequestKept s (commission s) := by
      refine (StepKept.commission s ?_ ?_).requestKept <;> rcases outside with e | e <;> simp [e, buildPhase]
    rw [Machine.answerCommission, if_pos outside]
    split
    · exact refl s
    · exact refl s
    · exact commissioned
  · rw [Machine.answerCommission, if_neg outside]
    exact refl s

/-- RESTART. -/
theorem RequestKept.answerRestart (p : List Byte) (s : State) : RequestKept s (answerRestart p s).1 := by
  by_cases outside : s.abu.phase = .unconfigured ∨ s.abu.phase = .idle ∨ s.abu.phase = .ready
  · have restarted : RequestKept s (Machine.restartCycle s) := by
      refine restartCycle s ?_ ?_ <;> rcases outside with e | e | e <;> simp [e, buildPhase]
    rw [Machine.answerRestart, if_pos outside]
    exact restarted
  · rw [Machine.answerRestart, if_neg outside]
    exact refl s

/-- The replacement of the active plan. -/
theorem BuildKept.replaceActive (q : Plan) (s : State) : BuildKept s (replaceActive q s) := by
  have replaced (f : Rru → Rru) : BuildKept s (s.onRru f) := .of_same (by rfl)
  unfold Machine.replaceActive
  exact (postPlan _ _).after (replaced _)

/-- A plan joins the queue. -/
theorem StepKept.appendPlan (q : Plan) (s : State) : StepKept s (appendPlan q s) := by
  have queued (f : Rru → Rru) : BuildKept s (s.onRru f) := .of_same (by rfl)
  unfold Machine.appendPlan
  exact (activateInIdle _).after (.of_buildKept (queued _))

/-- PLAN PUSH. -/
theorem RequestKept.answerPlanPush (p : List Byte) (s : State) : RequestKept s (answerPlanPush p s).1 := by
  unfold Machine.answerPlanPush
  split
  · exact refl s
  · unfold judgePush
    split_ifs
    · exact of_buildKept (.replaceActive _ s)
    · exact refl s
    · exact refl s
    · exact (StepKept.appendPlan _ s).requestKept

/-- START. -/
theorem RequestKept.answerStart (p : List Byte) (s : State) : RequestKept s (answerStart p s).1 := by
  by_cases ready : s.abu.phase = .ready
  · have started (q : ActivePlan) : RequestKept s (Machine.startStroke q s) := startStroke q s ready
    rw [Machine.answerStart, if_pos ready]
    split
    · exact refl s
    · dsimp only
      exact started _
    · exact refl s
  · rw [Machine.answerStart, if_neg ready]
    exact refl s

/-- END STROKE. -/
theorem RequestKept.answerEndStroke (p : List Byte) (s : State) : RequestKept s (answerEndStroke p s).1 := by
  unfold Machine.answerEndStroke
  split_ifs with outside
  · exact refl s
  · exact refl s
  · dsimp only
    exact (StepKept.enterStrokeEnd s (not_not.mp outside)).requestKept

/-- ENTER BUILD. -/
theorem RequestKept.answerEnterBuild (p : List Byte) (s : State) : RequestKept s (answerEnterBuild p s).1 := by
  unfold Machine.answerEnterBuild
  split_ifs with outside
  · exact refl s
  · exact refl s
  · exact refl s
  · have entered (q : ActivePlan) : RequestKept s (enterBuild q s) :=
      (StepKept.enterBuild q s (not_not.mp outside)).requestKept
    split
    · dsimp only
      exact entered _
    · exact refl s

/-- RESUME: the resume phase is the one that HALTED holds. -/
theorem StepKept.answerResume (p : List Byte) (s : State) : StepKept s (answerResume p s).1 := by
  unfold Machine.answerResume
  split
  · rename_i halted
    split
    · exact refl s
    · rename_i q resume
      split
      · exact refl s
      · dsimp only
        exact resumeCycle q s halted resume
  · exact refl s

/-- A withdrawal that passes its table is within max_retracted, on an unlocked group. -/
theorem withdrawalRefusal_none {fits : Bool} {s : State} {g : Fin 7} (h : withdrawalRefusal fits s g = none) :
    (groupOf s g).lock = false ∧ fits = true ∧
      7 - holdingCount s (fun _ => true) < s.cfb.thrust.maxRetracted := by
  unfold withdrawalRefusal at h
  split_ifs at h with locked unfit standing
  refine ⟨by simpa using locked, by simpa using unfit, ?_⟩
  unfold holdingRefusal at h
  split at h
  · exact absurd h (by simp)
  · by_contra beyond
    rw [if_pos (not_lt.mp beyond)] at h
    exact absurd h (by simp)

/-- RETRACT. -/
theorem RequestKept.answerRetract (p : List Byte) (s : State) : RequestKept s (answerRetract p s).1 := by
  unfold Machine.answerRetract
  split_ifs with outside h
  · exact refl s
  · split
    · exact refl s
    · rename_i passes
      obtain ⟨unlocked, fits, within⟩ := withdrawalRefusal_none passes
      simp only [retractFits, Bool.and_eq_true, beq_iff_eq] at fits
      exact (StepKept.withdrawGroup _ s (not_not.mp outside) unlocked within fun _ => fits.1).requestKept
  · exact refl s

/-- RESEAT: the OFFSET sector is the expected one. -/
theorem RequestKept.answerReseat (p : List Byte) (s : State) : RequestKept s (answerReseat p s).1 := by
  unfold Machine.answerReseat
  split_ifs with outside h
  · exact refl s
  · split
    · exact refl s
    · rename_i passes
      obtain ⟨unlocked, fits, within⟩ := withdrawalRefusal_none passes
      simp only [reseatFits, beq_iff_eq] at fits
      have building := not_not.mp outside
      exact (StepKept.withdrawGroup _ s building unlocked within fun laws =>
        (laws.seating (.inl (laws.cyclePhase building))).2 _ fits).requestKept
  · exact refl s

/-- ACCEPT. -/
theorem RequestKept.answerAccept (p : List Byte) (s : State) : RequestKept s (answerAccept p s).1 := by
  unfold Machine.answerAccept
  split_ifs with outside h moved standing
  · exact refl s
  · exact refl s
  · exact refl s
  · exact (StepKept.acceptSector _ s (not_not.mp outside) (not_not.mp moved) (not_not.mp standing)).requestKept
  · exact refl s

end Sys2Proof.Machine
end

section
/-! SUPPORT. The laws of withdrawal and of locks through the catalogue of requests, and through the bytes of both lines
(R133 to R136, R142 to R146). -/

namespace Sys2Proof.Machine

/-! ## The owners (R146) -/

/-- Whatever its payload, a request keeps the laws, and opens locks by rule. -/
def OwnerKept (owner : Owner) : Prop := ∀ (p : List Byte) (s : State), RequestKept s (owner p s).1

/-- A read leaves the state as it was. -/
theorem OwnerKept.of_read {owner : Owner} (h : ∀ p s, (owner p s).1 = s) : OwnerKept owner := fun p s => by
  rw [h]
  exact .refl s

/-- A request on the blocks that the build does not look at. -/
theorem OwnerKept.of_buildKept {owner : Owner} (h : ∀ p s, BuildKept s (owner p s).1) : OwnerKept owner :=
  fun p s => .of_buildKept (h p s)

/-- A request that opens no lock. -/
theorem OwnerKept.of_stepKept {owner : Owner} (h : ∀ p s, StepKept s (owner p s).1) : OwnerKept owner :=
  fun p s => (h p s).requestKept

/-- A line request refused leaves the state; one taken is on its line. -/
theorem onNamedLine_cases (act : Fin 6 → List Byte → State → State × Answer) (p : List Byte) (s : State) :
    (onNamedLine act p s).1 = s ∨ ∃ l, (onNamedLine act p s).1 = (act l p s).1 := by
  unfold onNamedLine
  split
  · exact .inr ⟨_, rfl⟩
  · exact .inl rfl

/-! ### Reads -/

/-- STATUS changes nothing but its reply. -/
theorem answerStatus_state (p : List Byte) (s : State) : (answerStatus p s).1 = s := by
  unfold answerStatus
  split <;> rfl

/-- GET changes nothing but its reply. -/
theorem answerGet_state (p : List Byte) (s : State) : (answerGet p s).1 = s := by
  unfold answerGet
  split <;> rfl

/-- NODE READ changes nothing but its reply. -/
theorem answerNodeRead_state (p : List Byte) (s : State) : (answerNodeRead p s).1 = s := by
  unfold answerNodeRead
  split <;> rfl

/-- RING READ changes nothing but its reply. -/
theorem answerRingRead_state (p : List Byte) (s : State) : (answerRingRead p s).1 = s := by
  unfold answerRingRead
  split <;> rfl

/-- SLICE READ changes nothing but its reply. -/
theorem answerSliceRead_state (p : List Byte) (s : State) : (answerSliceRead p s).1 = s := by
  unfold answerSliceRead
  split
  · rfl
  · split <;> rfl

/-- LINE READ changes nothing but its reply. -/
theorem answerLineRead_state (p : List Byte) (s : State) : (answerLineRead p s).1 = s := by
  rcases onNamedLine_cases (fun l _ s => (s, { code := .ok, rest := encLineRead s l })) p s with h | ⟨l, h⟩ <;> exact h

/-! ### Requests on the other blocks -/

namespace BuildKept

/-- SCREW MANUAL. -/
theorem answerScrewManual (p : List Byte) (s : State) : BuildKept s (answerScrewManual p s).1 := by
  unfold Machine.answerScrewManual
  dsimp only
  exact (formScrew _).after (.onFbu _ s rfl rfl)

/-- SCREW AUTO. -/
theorem answerScrewAuto (p : List Byte) (s : State) : BuildKept s (answerScrewAuto p s).1 := by
  unfold Machine.answerScrewAuto
  split
  · exact refl s
  · dsimp only
    exact (formScrew _).after (.onFbu _ s rfl rfl)

/-- FACE MODE. -/
theorem answerFaceMode (p : List Byte) (s : State) : BuildKept s (answerFaceMode p s).1 := by
  unfold Machine.answerFaceMode
  split
  · exact refl s
  · exact of_same (by rfl)

/-- BIAS CLEAR. -/
theorem answerBiasClear (p : List Byte) (s : State) : BuildKept s (answerBiasClear p s).1 := of_same (by rfl)

/-- CUTTER MANUAL. -/
theorem answerCutterManual (p : List Byte) (s : State) : BuildKept s (answerCutterManual p s).1 := by
  have stored (f : Chm → Chm) : BuildKept s (s.onChm f) := .of_same (by rfl)
  unfold Machine.answerCutterManual
  dsimp only
  exact (formCutterSpeed _).after (stored _)

/-- CUTTER AUTO. -/
theorem answerCutterAuto (p : List Byte) (s : State) : BuildKept s (answerCutterAuto p s).1 := by
  have stored (f : Chm → Chm) : BuildKept s (s.onChm f) := .of_same (by rfl)
  unfold Machine.answerCutterAuto
  dsimp only
  exact (formCutterSpeed _).after (stored _)

/-- PLAN DROP. -/
theorem answerPlanDrop (p : List Byte) (s : State) : BuildKept s (answerPlanDrop p s).1 := of_same (by rfl)

/-- HOLD. -/
theorem answerHold (p : List Byte) (s : State) : BuildKept s (answerHold p s).1 :=
  postCaps (fun c => { c with cabin := .rate 0 }) s

/-- RELEASE. -/
theorem answerRelease (p : List Byte) (s : State) : BuildKept s (answerRelease p s).1 :=
  postCaps (fun c => { c with cabin := .noLimit }) s

/-- FREEZE. -/
theorem answerFreeze (p : List Byte) (s : State) : BuildKept s (answerFreeze p s).1 := of_same (by rfl)

/-- UNFREEZE. -/
theorem answerUnfreeze (p : List Byte) (s : State) : BuildKept s (answerUnfreeze p s).1 := by
  unfold Machine.answerUnfreeze unfreezeItems
  split
  · exact of_same (by rfl)
  · exact refl s

/-- A line request that keeps the build on every line. -/
theorem onNamedLine {act : Fin 6 → List Byte → State → State × Answer} (h : ∀ l p s, BuildKept s (act l p s).1)
    (p : List Byte) (s : State) : BuildKept s (onNamedLine act p s).1 := by
  rcases onNamedLine_cases act p s with e | ⟨l, e⟩
  · rw [e]
    exact refl s
  · rw [e]
    exact h l p s

/-- A change of one line's record, with the issue check that follows. -/
theorem lineChecked (l : Fin 6) (f : Line → Line) (s : State) : BuildKept s (Machine.issueCheck l (onLine l f s)) :=
  (issueCheck l _).after (of_same (by rfl))

/-- LINE PAUSE. -/
theorem answerLinePause (p : List Byte) (s : State) : BuildKept s (answerLinePause p s).1 := by
  refine onNamedLine (fun l _ s => ?_) p s
  split
  · exact refl s
  · exact lineChecked l _ s

/-- LINE CONTINUE. -/
theorem answerLineContinue (p : List Byte) (s : State) : BuildKept s (answerLineContinue p s).1 := by
  refine onNamedLine (fun l _ s => ?_) p s
  split
  · exact lineChecked l _ s
  · exact refl s

/-- A CLEAR that passes. -/
theorem clearLine (l : Fin 6) (s : State) : BuildKept s (clearLine l s) := by
  have flushed (f : Line → Line) : BuildKept s (onLine l f s) := of_same (by rfl)
  unfold Machine.clearLine
  exact (issueChanged _ _).after ((recomputeShares _).after (flushed _))

/-- LINE CLEAR. -/
theorem answerLineClear (p : List Byte) (s : State) : BuildKept s (answerLineClear p s).1 := by
  refine onNamedLine (fun l _ s => ?_) p s
  split_ifs
  · exact refl s
  · exact refl s
  · dsimp only
    exact clearLine l s

/-- LINE TOPUP. -/
theorem answerLineTopup (p : List Byte) (s : State) : BuildKept s (answerLineTopup p s).1 := by
  refine onNamedLine (fun l _ s => ?_) p s
  split
  · exact lineChecked l _ s
  · exact refl s

/-- LINE MODE. -/
theorem answerLineMode (p : List Byte) (s : State) : BuildKept s (answerLineMode p s).1 := by
  refine onNamedLine (fun l _ s => ?_) p s
  split
  · exact refl s
  · exact lineChecked l _ s
  · exact lineChecked l _ s

end BuildKept

/-- SAFE STOP. -/
theorem StepKept.answerSafeStop (p : List Byte) (s : State) : StepKept s (answerSafeStop p s).1 := requestSafeStop s

/-- Every owner of the catalogue keeps the laws, and opens locks by rule. -/
theorem ownerKept_of_mem (row : CatalogueRow) (h : row ∈ catalogue) : OwnerKept row.owner := by
  have all : ∀ row ∈ catalogue, OwnerKept row.owner := by
    simp only [catalogue, List.forall_mem_cons, List.not_mem_nil, false_imp_iff, implies_true, and_true]
    exact ⟨.of_read answerStatus_state, .of_read fun _ _ => rfl, .answerCommission, .answerRestart, .answerSet,
      .of_read answerGet_state, .answerPlanPush, .of_buildKept .answerPlanDrop, .of_read fun _ _ => rfl, .answerStart,
      .of_buildKept .answerHold, .of_buildKept .answerRelease, .answerEndStroke, .answerEnterBuild,
      .of_stepKept .answerSafeStop, .of_stepKept .answerResume, .answerRetract, .answerReseat, .answerAccept,
      .of_buildKept .answerScrewManual, .of_buildKept .answerScrewAuto, .of_buildKept .answerFaceMode,
      .of_buildKept .answerBiasClear, .of_buildKept .answerCutterManual, .of_buildKept .answerCutterAuto,
      .of_buildKept .answerLinePause, .of_buildKept .answerLineContinue, .of_buildKept .answerLineClear,
      .of_buildKept .answerLineTopup, .of_buildKept .answerLineMode, .of_buildKept .answerFreeze,
      .of_buildKept .answerUnfreeze, .of_read answerRingRead_state, .of_read answerSliceRead_state,
      .of_read answerNodeRead_state, .of_read answerLineRead_state⟩
  exact all row h

/-! ## The receive queue (R143, R144) -/

/-- A change of the CLP that does not empty the receive queue. -/
theorem StepKept.onClp (f : Clp → Clp) (s : State) (h : s.clp.rxQueue ≠ [] → (f s.clp).rxQueue ≠ []) :
    StepKept s (s.onClp f) where
  laws x := ⟨x.keys, x.orders, x.halt, x.seating, x.withdrawal⟩
  locks _ x := x
  tx := .inl rfl
  requests := h
  held _ x := x

/-- What opens locks by rule looks at the ABU alone. -/
theorem LocksByRule.congr {s t u v : State} (h : LocksByRule t u) (before : t.abu = s.abu) (after : v.abu = u.abu) :
    LocksByRule s v := by
  unfold LocksByRule groupOf
  rw [after, ← before]
  exact h

/-- A request through its owner. -/
theorem RequestKept.serveRequest (row : CatalogueRow) (h : row ∈ catalogue) (f : CabinFrame) (s : State) :
    RequestKept s (serveRequest row.owner f s) := by
  have heard : StepKept s (restartSilence s) := .onClp _ s fun x => x
  have owned := ownerKept_of_mem row h f.payload (restartSilence s)
  have told (t : State) (a : Answer) : StepKept t (placeReply (f.kind + 0x80) f.tag a t) := .onClp _ t fun x => x
  exact ⟨(heard.toLawsKept.trans owned.toLawsKept).trans (told _ _).toLawsKept, owned.byRule.congr rfl rfl⟩

/-- A frame taken. -/
theorem RequestKept.takeFrame (f : CabinFrame) (s : State) : RequestKept s (takeFrame f s) := by
  have told (k : Byte) (a : Answer) : StepKept s (placeReply k f.tag a s) := .onClp _ s fun x => x
  unfold Machine.takeFrame
  split
  · exact (told _ _).requestKept
  · rename_i row found
    split
    · exact serveRequest row (List.mem_of_find?_eq_some found) f s
    · exact (told _ _).requestKept

/-- What bytes from the Cabin Link do: at most one request is taken, and only with the receive queue empty. -/
structure BytesKept (s u : State) : Prop extends LawsKept s u where
  once : u.abu = s.abu ∨ (s.clp.rxQueue = [] ∧ u.clp.rxQueue ≠ [] ∧ LocksByRule s u)

/-- Bytes that take no request. -/
theorem BytesKept.onClp (f : Clp → Clp) (s : State) (h : s.clp.rxQueue ≠ [] → (f s.clp).rxQueue ≠ []) :
    BytesKept s (s.onClp f) := ⟨(StepKept.onClp f s h).toLawsKept, .inl rfl⟩

/-- Bytes after bytes. -/
theorem BytesKept.trans {s t u : State} (h : BytesKept s t) (k : BytesKept t u) : BytesKept s u := by
  refine ⟨h.toLawsKept.trans k.toLawsKept, ?_⟩
  rcases k.once with same | ⟨empty, taken, rule⟩
  · rcases h.once with e | ⟨empty, taken, rule⟩
    · exact .inl (same.trans e)
    · exact .inr ⟨empty, k.requests taken, rule.congr rfl same⟩
  · rcases h.once with e | ⟨-, before, -⟩
    · exact .inr ⟨by_contra fun some => h.requests some empty, taken, rule.congr e rfl⟩
    · exact absurd empty before

/-- Locks open by rule through bytes. -/
theorem BytesKept.byRule {s u : State} (h : BytesKept s u) : LocksByRule s u := by
  rcases h.once with same | ⟨-, -, rule⟩
  · exact fun g locked => .inl (by rw [groupOf, same]; exact locked)
  · exact rule

/-- A whole frame arrives. -/
theorem BytesKept.receiveFrame (f : CabinFrame) (s : State) : BytesKept s (receiveFrame f s) := by
  unfold Machine.receiveFrame
  split_ifs with full empty
  · exact onClp _ s fun x => x
  · have head : BytesKept s (s.onClp fun c => { c with rxQueue := [f] }) := onClp _ s fun _ => by simp
    have taken := RequestKept.takeFrame f (s.onClp fun c => { c with rxQueue := [f] })
    exact ⟨head.toLawsKept.trans taken.toLawsKept,
      .inr ⟨empty, taken.requests (by simp [State.onClp]), taken.byRule.congr rfl rfl⟩⟩
  · exact onClp _ s fun _ => by simp

/-- One byte taken off the Cabin Link. -/
theorem BytesKept.cabinByte (b : Byte) (s : State) : BytesKept s (cabinByte b s) := by
  have received : BytesKept s (s.onClp fun c => { c with receiver := (rxByte 3 s.clp.receiver b).1 }) :=
    onClp _ s fun x => x
  unfold Machine.cabinByte
  simp only
  split
  · exact received
  · exact received.trans (onClp _ _ fun x => x)
  · exact received.trans (onClp _ _ fun x => x)
  · exact received.trans (receiveFrame _ _)

/-- Bytes without a gap. -/
theorem BytesKept.cabinBytes (bytes : List Byte) (s : State) : BytesKept s (cabinBytes bytes s) := by
  unfold Machine.cabinBytes
  induction bytes generalizing s with
  | nil => exact ⟨(StepKept.refl s).toLawsKept, .inl rfl⟩
  | cons b bytes ih => exact (cabinByte b s).trans (ih _)

/-- A gap on the Cabin Link. -/
theorem BytesKept.cabinGap (s : State) : BytesKept s (cabinGap s) := by
  unfold Machine.cabinGap
  split
  · exact onClp _ s fun x => x
  · exact ⟨(StepKept.refl s).toLawsKept, .inl rfl⟩

/-! ## What happens before the arbiters choose -/

/-- What a command does before the arbiters choose: it keeps the laws, sends no frame on the Machine Line, and opens locks
by rule. -/
structure ActKept (s u : State) : Prop where
  laws : BuildLaws s → BuildLaws u
  locks : BuildLaws s → LockLaw s → LockLaw u
  tx : u.mlp.tx = s.mlp.tx ∨ u.mlp.tx = none
  byRule : LocksByRule s u

/-- An operation that opens no lock. -/
theorem StepKept.actKept {s u : State} (h : StepKept s u) : ActKept s u :=
  ⟨h.laws, h.locks, h.tx, h.requestKept.byRule⟩

/-- An operation on the blocks that the build does not look at. -/
theorem BuildKept.actKept {s u : State} (h : BuildKept s u) : ActKept s u := (StepKept.of_buildKept h).actKept

/-- Bytes from the Cabin Link. -/
theorem BytesKept.actKept {s u : State} (h : BytesKept s u) : ActKept s u := ⟨h.laws, h.locks, h.tx, h.byRule⟩

/-- The end of a frame on the Cabin Link. -/
theorem ActKept.cabinFrameEnds (s : State) : ActKept s (cabinFrameEnds s) := by
  have changed (f : Clp → Clp) : ActKept s (s.onClp f) :=
    ⟨fun x => ⟨x.keys, x.orders, x.halt, x.seating, x.withdrawal⟩, fun _ x => x, .inl rfl, fun _ x => .inl x⟩
  have taken (f : Clp → Clp) (g : CabinFrame) : ActKept s (takeFrame g (s.onClp f)) := by
    have before := changed f
    have request := RequestKept.takeFrame g (s.onClp f)
    exact ⟨fun x => request.laws (before.laws x), fun x y => request.locks (before.laws x) (before.locks x y), request.tx,
      request.byRule.congr rfl rfl⟩
  unfold Machine.cabinFrameEnds
  split
  · exact (StepKept.refl s).actKept
  · dsimp only
    split
    · unfold nextRequest
      dsimp only
      split
      · exact changed fun c => { c with tx := none, rxQueue := c.rxQueue.tail }
      · exact taken (fun c => { c with tx := none, rxQueue := c.rxQueue.tail }) _
    · exact changed _

end Sys2Proof.Machine
end

section
/-! SUPPORT. The laws of withdrawal and of locks through the Machine Line and the expiries (R133 to R136, R29, R51, R135,
R140). -/

namespace Sys2Proof.Machine

/-! ## Notices and deliveries (R136) -/

/-- A change of one node's entry. -/
theorem BuildKept.onNode (r : Role) (f : Node → Node) (s : State) : BuildKept s (onNode r f s) := of_same (by rfl)

/-- The notice of an essential node's new state. -/
theorem StepKept.essentialChanged (r : Role) (st : NodeState) (s : State) : StepKept s (essentialChanged r st s) := by
  unfold Machine.essentialChanged
  split
  · exact causeArrives _ s
  · exact causeArrives _ s
  · exact refl s
  · exact refl s

/-- The notice of a node's new state. -/
theorem StepKept.notifyNode (r : Role) (st : NodeState) (s : State) : StepKept s (notifyNode r st s) := by
  cases r
  case face | cutter | screw | thrust => exact essentialChanged _ st s
  case erector => exact refl s
  case belt => exact of_buildKept (.postMuck s)
  case grout l => exact of_buildKept (.groutNodeChanged l st s)

/-- A sample delivered. -/
theorem StepKept.deliverSample (r : Role) (p : List Byte) (s : State) : StepKept s (deliverSample r p s) := by
  cases r
  case face => exact faceSample _ s
  case cutter => exact cutterSample _ s
  case screw => exact of_buildKept (.of_same (by rfl))
  case thrust => exact thrustSample _ s
  case erector => exact refl s
  case belt => exact of_buildKept (.beltSample _ _ s)
  case grout l => exact of_buildKept (.groutSample l _ s)

/-- A report delivered. -/
theorem StepKept.deliverReport (r : Role) (p : List Byte) (s : State) : StepKept s (deliverReport r p s) := by
  unfold Machine.deliverReport
  cases r
  case erector =>
    dsimp only
    split
    · exact seatReport _ _ s
    · exact refl s
  case grout l =>
    dsimp only
    split
    · exact of_buildKept (.doneReport l _ _ _ s)
    · exact refl s
  all_goals exact refl s

/-- A frame delivered. -/
theorem StepKept.deliver (r : Role) (f : MachineFrame) (s : State) : StepKept s (deliver r f s) := by
  unfold Machine.deliver
  split_ifs
  · exact deliverSample r _ s
  · exact deliverReport r _ s
  · exact refl s

/-! ## Arrivals (R133, R134) -/

/-- A node's state settled. -/
theorem StepKept.settleNode (r : Role) (f : MachineFrame) (s : State) : StepKept s (settleNode r f s) := by
  have told (e : Option EventBody) (h : Node → Node) : BuildKept s (queueIf e (onNode r h s)) :=
    (BuildKept.queueIf e _).after (.onNode r h s)
  unfold Machine.settleNode
  dsimp only
  split
  · exact of_buildKept (told _ _)
  · exact (notifyNode r _ _).after (of_buildKept (told _ _))

/-- A whole frame. -/
theorem StepKept.machineFrame (f : MachineFrame) (s : State) : StepKept s (machineFrame f s) := by
  unfold Machine.machineFrame
  split
  · exact of_buildKept (.onMlp _ s rfl rfl)
  · rename_i r _
    split
    · exact of_buildKept (.onMlp _ s rfl rfl)
    · exact (deliver r f _).after ((settleNode r f _).after (of_buildKept (.onNode r _ s)))

/-- One byte taken off the Machine Line. -/
theorem StepKept.machineByte (b : Byte) (s : State) : StepKept s (machineByte b s) := by
  have received : StepKept s (s.onMlp fun m => { m with receiver := (rxByte 4 s.mlp.receiver b).1 }) :=
    of_buildKept (.onMlp _ s rfl rfl)
  unfold Machine.machineByte
  simp only
  split
  · exact received
  · exact (of_buildKept (.onMlp _ _ rfl rfl)).after received
  · exact (of_buildKept (.onMlp _ _ rfl rfl)).after received
  · exact (machineFrame _ _).after received

/-- Bytes without a gap. -/
theorem StepKept.machineBytes (bytes : List Byte) (s : State) : StepKept s (machineBytes bytes s) :=
  foldl _ (fun t b => machineByte b t) _ s

/-- A gap on the Machine Line. -/
theorem StepKept.machineGap (s : State) : StepKept s (machineGap s) := by
  unfold Machine.machineGap
  split
  · exact of_buildKept (.onMlp _ s rfl rfl)
  · exact refl s

/-- The end of a frame on the Machine Line. -/
theorem StepKept.machineFrameEnds (s : State) : StepKept s (machineFrameEnds s) where
  laws x := ⟨x.keys, x.orders, x.halt, x.seating, x.withdrawal⟩
  locks _ x := x
  tx := .inr rfl
  requests x := x
  held _ x := x

/-! ## Expiries (R21, R29, R51, R135, R140, R152) -/

/-- A node's silence timer. -/
theorem StepKept.silenceExpires (r : Role) (s : State) : StepKept s (silenceExpires r s) := by
  have told (h : Node → Node) : BuildKept s (queueEvent (.nodeSilent r) (Machine.onNode r h s)) :=
    (BuildKept.queueEvent _ _).after (.onNode r h s)
  unfold Machine.silenceExpires
  split
  · dsimp only
    split
    · exact of_buildKept (told _)
    · exact (notifyNode r _ _).after (of_buildKept (told _))
  · exact refl s

/-- The freeze timer. -/
theorem StepKept.freezeExpires (s : State) : StepKept s (freezeExpires s) := by
  unfold Machine.freezeExpires
  split
  · exact of_buildKept ((BuildKept.queueEvent _ _).after (.onMlp _ s rfl rfl))
  · exact refl s

/-- The start timer. -/
theorem StepKept.startTimerExpires (s : State) : StepKept s (startTimerExpires s) := by
  have stopped (f : Chm → Chm) : BuildKept s (s.onChm f) := .of_same (by rfl)
  unfold Machine.startTimerExpires
  split
  · exact of_buildKept ((BuildKept.queueEvent _ _).after (stopped _))
  · exact refl s

/-- The face-invalid timer. -/
theorem StepKept.faceInvalidExpires (s : State) : StepKept s (faceInvalidExpires s) := by
  have expired : BuildKept s (s.onFbu fun f => { f with invalidTimer := .expired }) := .of_same (by rfl)
  unfold Machine.faceInvalidExpires
  split
  · exact (causeArrives _ _).after (of_buildKept expired)
  · exact refl s

/-- The cabin silence timer. -/
theorem StepKept.cabinSilenceExpires (s : State) : StepKept s (cabinSilenceExpires s) := by
  have stopped : BuildKept s (s.onClp fun c => { c with silenceTimer := .stopped }) := .of_same (by rfl)
  have capped (t : State) : BuildKept t (postCabin (.rate 0) t) := .postCaps _ t
  unfold Machine.cabinSilenceExpires
  split
  · exact of_buildKept ((BuildKept.queueEvent _ _).after ((capped _).after stopped))
  · exact refl s

/-- The status pacing timer. -/
theorem StepKept.pacingExpires (s : State) : StepKept s (pacingExpires s) := by
  unfold Machine.pacingExpires
  split
  · exact onClp _ s fun x => x
  · exact refl s

/-! ## Every command but the resets -/

/-- A command is a reset, or acts and lets the arbiters choose. -/
theorem exec_cases (i : Instr) (s t : State) (h : exec i s = .next t) :
    t = resetDevice s ∨ ∃ u, ActKept s u ∧ t = settle u := by
  cases i
  case powerOnReset | lineReset => exact .inl (by cases h; rfl)
  case cabinFrameReceived bytes => exact .inr ⟨_, (BytesKept.cabinBytes bytes s).actKept, by cases h; rfl⟩
  case cabinRxGap after =>
    exact .inr ⟨_, ((BytesKept.cabinGap s).trans (.cabinBytes after _)).actKept, by cases h; rfl⟩
  case cabinTxDone => exact .inr ⟨_, .cabinFrameEnds s, by cases h; rfl⟩
  case cabinSilenceExpiry => exact .inr ⟨_, (StepKept.cabinSilenceExpires s).actKept, by cases h; rfl⟩
  case statusPacingExpiry => exact .inr ⟨_, (StepKept.pacingExpires s).actKept, by cases h; rfl⟩
  case faceInvalidExpiry => exact .inr ⟨_, (StepKept.faceInvalidExpires s).actKept, by cases h; rfl⟩
  case startTimerExpiry => exact .inr ⟨_, (StepKept.startTimerExpires s).actKept, by cases h; rfl⟩
  case moveTimerExpiry g => exact .inr ⟨_, (BuildKept.moveTimerExpires g s).actKept, by cases h; rfl⟩
  case strokeTimerExpiry l => exact .inr ⟨_, (BuildKept.strokeTimerExpires l s).actKept, by cases h; rfl⟩
  case periodTimerExpiry l => exact .inr ⟨_, (BuildKept.periodTimerExpires l s).actKept, by cases h; rfl⟩
  case silenceTimerExpiry r => exact .inr ⟨_, (StepKept.silenceExpires r s).actKept, by cases h; rfl⟩
  case freezeTimerExpiry => exact .inr ⟨_, (StepKept.freezeExpires s).actKept, by cases h; rfl⟩
  case machineRxGap after =>
    exact .inr ⟨_, ((StepKept.machineGap s).trans (.machineBytes after _)).actKept, by cases h; rfl⟩
  case machineTxDone => exact .inr ⟨_, (StepKept.machineFrameEnds s).actKept, by cases h; rfl⟩
  case machineFrameDiscarded bytes => exact .inr ⟨_, (StepKept.machineBytes bytes s).actKept, by cases h; rfl⟩
  case faceSample | cutterSample | screwSample | thrustSample | erectorSample | seatReport | beltSample | groutSample |
      doneReport | nodeOtherFrame | unknownAddressFrame =>
    exact .inr ⟨_, (StepKept.machineFrame _ s).actKept, by cases h; rfl⟩
  all_goals exact .inr ⟨_, (BytesKept.receiveFrame _ s).actKept, by cases h; rfl⟩

end Sys2Proof.Machine
end

section
/-! SUPPORT. The laws of withdrawal and of locks through the transmit arbiters, and what a RETRACT frame says (R60, R66,
R139, 9.7). -/

namespace Sys2Proof.Machine

/-! ## The payload of a RETRACT (9.7) -/

/-- The first byte of a command frame is its key. -/
theorem commandPayload_head (c : Command) : (commandPayload c).head? = some (BitVec.ofNat 8 (keyCode (keyOf c))) := by
  have fits : keyCode (keyOf c) < 256 ^ 1 := by
    cases c <;> simp only [keyOf, keyCode] <;> omega
  rw [commandPayload, encNat, if_pos fits]
  simp [bigEndian]

/-- The bytes of a group order before its trim. -/
theorem commandPayload_groupOrder (g : Fin 7) (o : GroupOrder) (t : Int) :
    commandPayload (.groupOrder g o t) =
      BitVec.ofNat 8 (1 + g.val) :: BitVec.ofNat 8 g.val :: BitVec.ofNat 8 (groupOrderCode o) :: encInt 2 t := by
  have order : groupOrderCode o < 256 ^ 1 := by cases o <;> decide
  rw [commandPayload, encCommand, keyOf, keyCode, encNat, if_pos (by omega), encNat, if_pos (by omega), encNat,
    if_pos order]
  simp [bigEndian]

/-- Keys of one number are one key. -/
theorem keyOf_of_keyCode (c : Command) (g : Fin 7) (h : keyCode (keyOf c) = 1 + g.val) : keyOf c = .groupOrder g := by
  cases c <;> simp only [keyOf, keyCode] at h ⊢
  case groupOrder k _ _ => exact congrArg _ (Fin.ext (by omega))
  all_goals omega

/-- Only a RETRACT of a group has the payload of one. -/
theorem command_of_retractPayload (c : Command) (g : Fin 7) (u : Int)
    (h : commandPayload c = commandPayload (.groupOrder g .retract u)) : ∃ t, c = .groupOrder g .retract t := by
  have key : keyCode (keyOf c) = 1 + g.val := by
    have head := congrArg List.head? h
    rw [commandPayload_head, commandPayload_head] at head
    have bytes := congrArg BitVec.toNat (Option.some.inj head)
    have fits : keyCode (keyOf c) < 256 := by cases c <;> simp only [keyOf, keyCode] <;> omega
    rw [BitVec.toNat_ofNat, BitVec.toNat_ofNat, Nat.mod_eq_of_lt fits] at bytes
    exact bytes.trans (Nat.mod_eq_of_lt (by simp only [keyOf, keyCode]; omega))
  have same := keyOf_of_keyCode c g key
  cases c <;> simp only [keyOf, reduceCtorEq, ItemKey.groupOrder.injEq] at same
  subst same
  rename_i o t
  rw [commandPayload_groupOrder, commandPayload_groupOrder] at h
  obtain ⟨order, -⟩ := List.cons.inj (List.cons.inj (List.cons.inj h).2).2
  refine ⟨t, ?_⟩
  cases o <;> first | rfl | exact absurd order (by decide)

/-! ## The arbiter of the Machine Line (R139) -/

/-- A frame of the Machine Line that carries an item. -/
def carries (c : Command) (tx : Option MachineFrame) : Prop := ∃ f, tx = some f ∧ f.payload = commandPayload c

/-- What the arbiters do: they give notices, which change order queued flags alone, and send only what waits. -/
structure SettleKept (s u : State) : Prop where
  laws : BuildLaws s → BuildLaws u
  locks : LockLaw s → LockLaw u
  lock : ∀ g, (groupOf u g).lock = (groupOf s g).lock
  phase : u.abu.phase = s.abu.phase
  reset : s.abu.groups = Vector.replicate 7 State.reset.abu.groups[0] →
    u.abu.groups = Vector.replicate 7 State.reset.abu.groups[0]
  may : ∀ g, MayWithdraw s g → MayWithdraw u g
  sent : u.mlp.tx = s.mlp.tx ∨ ∃ c, carries c u.mlp.tx ∧
    ∀ g t, c = .groupOrder g .retract t → BuildLaws s → MayWithdraw u g

/-- Nothing sent. -/
theorem SettleKept.refl (s : State) : SettleKept s s :=
  ⟨fun x => x, fun x => x, fun _ => rfl, rfl, fun x => x, fun _ x => x, .inl rfl⟩

/-- One choice after the other. -/
theorem SettleKept.trans {s t u : State} (h : SettleKept s t) (k : SettleKept t u) : SettleKept s u where
  laws x := k.laws (h.laws x)
  locks x := k.locks (h.locks x)
  lock g := (k.lock g).trans (h.lock g)
  phase := k.phase.trans h.phase
  reset x := k.reset (h.reset x)
  may g x := k.may g (h.may g x)
  sent := by
    rcases k.sent with same | ⟨c, carried, rule⟩
    · rcases h.sent with e | ⟨c, carried, rule⟩
      · exact .inl (same.trans e)
      · exact .inr ⟨c, by rw [same]; exact carried, fun g t e x => k.may g (rule g t e x)⟩
    · exact .inr ⟨c, carried, fun g t e x => rule g t e (h.laws x)⟩

/-- A group's record after the notice of an item's transmission (R60, R139). -/
theorem groupOf_giveNotice (c : Command) (s : State) (g : Fin 7) :
    groupOf (giveNotice c s) g =
      if keyOf c = .groupOrder g then { groupOf s g with orderQueued := false } else groupOf s g := by
  unfold giveNotice
  split
  · rename_i k _ _
    rw [groupOf_onGroup]
    by_cases e : g = k
    · simp [e, keyOf]
    · simp [e, keyOf, Ne.symm e]
  · simp [keyOf, groupOf, onLine, State.onGru]
  · rename_i other _
    rw [if_neg]
    intro key
    cases c <;> simp only [keyOf, reduceCtorEq] at key
    exact other _ _ _ rfl

/-- An item chosen leaves the queue that the choice left. -/
theorem transmitItem_queue (i : Item) (rest : List Item) (s : State) : (transmitItem i rest s).mlp.queue = rest := by
  unfold transmitItem
  rw [giveNotice_frame]
  unfold sendItem
  dsimp only
  split <;> rfl

/-- What waits after an item is chosen. -/
theorem itemWaits_transmitItem (i : Item) (rest : List Item) (s : State) (d : Command) :
    ItemWaits d (transmitItem i rest s) ↔ ∃ j ∈ rest, j.command = d := by
  unfold ItemWaits
  rw [transmitItem_queue]

/-- An item sent changes the MLP, the groups' and the lines' records alone. -/
theorem transmitItem_frame (i : Item) (rest : List Item) (s : State) :
    transmitItem i rest s =
      { s with
        mlp := (transmitItem i rest s).mlp
        abu := { s.abu with groups := (transmitItem i rest s).abu.groups }
        gru := { s.gru with lines := (transmitItem i rest s).gru.lines } } := by
  unfold transmitItem
  rw [giveNotice_frame, sendItem_frame]
  rfl

/-- A group's record after an item is sent. -/
theorem groupOf_transmitItem (i : Item) (rest : List Item) (s : State) (g : Fin 7) :
    groupOf (transmitItem i rest s) g =
      if keyOf i.command = .groupOrder g then { groupOf s g with orderQueued := false } else groupOf s g := by
  have sentAbu : (sendItem i.command (s.onMlp fun m => { m with queue := rest })).abu = s.abu := by
    rw [sendItem_frame]
    rfl
  unfold transmitItem
  rw [groupOf_giveNotice, groupOf, sentAbu]
  rfl

/-- An item sent changes no group's state and no lock. -/
theorem transmitItem_group (i : Item) (rest : List Item) (s : State) (g : Fin 7) :
    (groupOf (transmitItem i rest s) g).state = (groupOf s g).state ∧
      (groupOf (transmitItem i rest s) g).lock = (groupOf s g).lock := by
  rw [groupOf_transmitItem]
  split <;> exact ⟨rfl, rfl⟩

/-- What waits after a choice waited before it. -/
theorem itemWaits_of_transmitItem {i : Item} {rest : List Item} {s : State} (perm : (i :: rest).Perm s.mlp.queue)
    {d : Command} (waits : ItemWaits d (transmitItem i rest s)) : ItemWaits d s := by
  obtain ⟨j, hj, e⟩ := (itemWaits_transmitItem i rest s d).mp waits
  exact ⟨j, perm.subset (List.mem_cons_of_mem _ hj), e⟩

/-- A RETRACT that waits after a choice waited before it. -/
theorem retractWaits_of_transmitItem {i : Item} {rest : List Item} {s : State} (perm : (i :: rest).Perm s.mlp.queue)
    {g : Fin 7} (waits : retractWaits (transmitItem i rest s) g = true) : retractWaits s g = true := by
  obtain ⟨t, ht⟩ := (retractWaits_iff _ g).mp waits
  exact (retractWaits_iff s g).mpr ⟨t, itemWaits_of_transmitItem perm ht⟩

/-- A group that could withdraw still can after an item is sent. -/
theorem MayWithdraw.transmitItem {s : State} {g : Fin 7} (h : MayWithdraw s g) (i : Item) (rest : List Item) :
    MayWithdraw (transmitItem i rest s) g :=
  h.mono (by rw [transmitItem_frame]) (by rw [transmitItem_frame]) fun k hk => by
    rw [(transmitItem_group i rest s k).1]
    exact hk

/-- The order queued flag of the group whose order left is clear, and no other order of its key waits (R60, R137). -/
theorem orderLaw_transmitItem {i : Item} {rest : List Item} {s : State} (perm : (i :: rest).Perm s.mlp.queue)
    (once : keyOf i.command ∉ rest.map fun j => keyOf j.command) (law : OrderLaw s) :
    OrderLaw (transmitItem i rest s) := by
  intro g
  rw [groupOf_transmitItem]
  split
  · rename_i e
    refine (Bool.eq_false_iff.mpr fun waits => once ?_).symm
    obtain ⟨o, t, w⟩ := (orderWaits_iff _ g).mp waits
    obtain ⟨j, hj, command⟩ := (itemWaits_transmitItem i rest s _).mp w
    exact List.mem_map.mpr ⟨j, hj, by rw [command, e]; rfl⟩
  · rename_i e
    rw [law g, Bool.eq_iff_iff, orderWaits_iff, orderWaits_iff]
    refine ⟨fun ⟨o, t, j, hj, command⟩ => ⟨o, t, (itemWaits_transmitItem i rest s _).mpr ⟨j, ?_, command⟩⟩,
      fun ⟨o, t, w⟩ => ⟨o, t, itemWaits_of_transmitItem perm w⟩⟩
    rcases List.mem_cons.mp (perm.symm.subset hj) with same | other
    · exact absurd (by rw [← same, command]; rfl) e
    · exact other

/-- The laws of a build after an item is sent. -/
theorem BuildLaws.transmitItem {i : Item} {rest : List Item} {s : State} (perm : (i :: rest).Perm s.mlp.queue)
    (laws : BuildLaws s) : BuildLaws (transmitItem i rest s) := by
  have keys : (keyOf i.command :: rest.map fun j => keyOf j.command).Nodup :=
    (perm.map fun j : Item => keyOf j.command).nodup_iff.mpr laws.keys
  obtain ⟨once, others⟩ := List.nodup_cons.mp keys
  refine ⟨?_, orderLaw_transmitItem perm once laws.orders, ?_, ?_, fun g waits => ?_⟩
  · unfold KeysOnce queuedKeys
    rw [transmitItem_queue]
    exact others
  · rw [transmitItem_frame]
    exact laws.halt
  · rw [transmitItem_frame]
    exact laws.seating
  · obtain ⟨phase, expected, out, borne⟩ := laws.withdrawal g (retractWaits_of_transmitItem perm waits)
    refine ⟨?_, ?_, (transmitItem_group i rest s g).1 ▸ out, borne.transmitItem i rest⟩
    · rw [transmitItem_frame]
      exact phase
    · rw [transmitItem_frame]
      exact expected

/-- An item chosen and sent. -/
theorem SettleKept.transmitItem (i : Item) (rest : List Item) (s : State)
    (h : chooseItem s.mlp.frozen s.mlp.queue = some (i, rest)) : SettleKept s (transmitItem i rest s) := by
  have perm := (chooseItem_perm _ _ _ _ h).1
  refine ⟨.transmitItem perm, fun law g locked => ?_, fun g => (transmitItem_group i rest s g).2,
    by rw [transmitItem_frame], fun reset => Vector.ext fun k hk => ?_, fun g may => may.transmitItem i rest, ?_⟩
  · obtain ⟨state, lock⟩ := transmitItem_group i rest s g
    rw [lock] at locked
    obtain ⟨moving, out, none⟩ := law g locked
    rw [state]
    exact ⟨moving, out, Bool.eq_false_iff.mpr fun waits =>
      absurd (retractWaits_of_transmitItem perm waits) (by simp [none])⟩
  · have here := groupOf_transmitItem i rest s ⟨k, hk⟩
    have before (j : Fin 7) : groupOf s j = State.reset.abu.groups[0] := by simp [groupOf, reset]
    rw [before] at here
    rw [Vector.getElem_replicate]
    refine here.trans ?_
    split <;> rfl
  · have tx : (Machine.transmitItem i rest s).mlp.tx =
        (sendItem i.command (s.onMlp fun m => { m with queue := rest })).mlp.tx := by
      unfold Machine.transmitItem
      rw [giveNotice_frame]
    rw [tx]
    unfold sendItem
    dsimp only
    split
    · exact .inl rfl
    · refine .inr ⟨i.command, ⟨_, rfl, rfl⟩, fun g t command laws => MayWithdraw.transmitItem ?_ i rest⟩
      refine (laws.withdrawal g ((retractWaits_iff s g).mpr ⟨t, i, ?_, command⟩)).2.2.2
      exact perm.subset List.mem_cons_self

/-- The arbiter of the Machine Line. -/
theorem SettleKept.arbitrateMachine (n : Nat) (s : State) : SettleKept s (arbitrateMachine n s) := by
  induction n generalizing s with
  | zero => exact refl s
  | succ n ih =>
    unfold Machine.arbitrateMachine
    split
    · exact refl s
    · split
      · exact refl s
      · rename_i i rest chosen
        exact (transmitItem i rest s chosen).trans (ih _)

/-- Both arbiters. -/
theorem SettleKept.settle (s : State) : SettleKept s (settle s) := by
  refine (arbitrateMachine s.mlp.queue.length s).trans ?_
  unfold Machine.settle
  rw [arbitrateCabin_frame]
  exact ⟨fun x => ⟨x.keys, x.orders, x.halt, x.seating, x.withdrawal⟩, fun x => x, fun _ => rfl, rfl, fun x => x,
    fun _ x => x, .inl rfl⟩

end Sys2Proof.Machine
end

section
/-! SUPPORT. The laws of withdrawal and of locks through every step (R1, R58 to R72). -/

namespace Sys2Proof.Machine

/-- What every step does to the laws, to the locks and to the frame on the Machine Line. -/
structure StepRule (s t : State) : Prop where
  laws : BuildLaws s → BuildLaws t
  locks : BuildLaws s → LockLaw s → LockLaw t
  byRule : LocksByRule s t
  sent : t.mlp.tx = s.mlp.tx ∨ t.mlp.tx = none ∨ ∃ c, carries c t.mlp.tx ∧
    ∀ g u, c = .groupOrder g .retract u → BuildLaws s → MayWithdraw t g

/-- A command, then both arbiters. -/
theorem ActKept.settled {s u : State} (h : ActKept s u) : StepRule s (settle u) := by
  have after := SettleKept.settle u
  refine ⟨fun x => after.laws (h.laws x), fun x y => after.locks (h.locks x y), fun g locked => ?_, ?_⟩
  · rcases h.byRule g locked with held | ⟨ready, boring⟩ | reset
    · exact .inl ((after.lock g).trans held)
    · exact .inr (.inl ⟨ready, after.phase.trans boring⟩)
    · exact .inr (.inr (after.reset reset))
  · rcases after.sent with same | ⟨c, carried, rule⟩
    · rw [same]
      exact h.tx.imp_right .inl
    · exact .inr (.inr ⟨c, carried, fun g t e x => rule g t e (h.laws x)⟩)

/-- The groups after a reset are at their reset values. -/
theorem resetDevice_groups (s : State) : (resetDevice s).abu.groups = Vector.replicate 7 State.reset.abu.groups[0] := rfl

/-- A reset. -/
theorem StepRule.resetDevice (s : State) : StepRule s (resetDevice s) := by
  have group (g : Fin 7) : groupOf (Machine.resetDevice s) g = Group.reset := by
    simp [groupOf, Machine.resetDevice, State.reset, Abu.reset]
  refine ⟨fun _ => .of_noRetract List.nodup_nil (fun g => by rw [group]; rfl)
    (haltLaw_of_running (by simp [Machine.resetDevice, State.reset, Abu.reset]) rfl rfl)
    (seatingLaw_of_outside rfl rfl) fun _ => rfl, fun _ _ g locked => ?_, fun _ _ => .inr (.inr (resetDevice_groups s)), .inl rfl⟩
  rw [group] at locked
  exact absurd locked (by simp [Group.reset])

/-- A millisecond passes. -/
theorem BuildKept.tick (s : State) : BuildKept s (tick s) := of_same (by rfl)

/-- One step of the device. -/
theorem StepRule.step {s t : State} (h : step s = .next t) : StepRule s t := by
  unfold Machine.step at h
  split at h
  · obtain rfl : Machine.tick s = t := by simpa using h
    have kept := StepKept.of_buildKept (.tick s)
    exact ⟨kept.laws, kept.locks, kept.requestKept.byRule, .inl rfl⟩
  · rename_i c rest _
    have before : BuildKept s { s with pending := rest } := .of_same (by rfl)
    have rule : StepRule { s with pending := rest } t := by
      rcases exec_cases c _ t h with rfl | ⟨u, kept, rfl⟩
      · exact resetDevice _
      · exact kept.settled
    exact ⟨fun x => rule.laws (before.buildLaws x), fun x y => rule.locks (before.buildLaws x) (before.lockLaw y),
      rule.byRule, rule.sent.imp_right (Or.imp_right fun ⟨c, carried, may⟩ =>
        ⟨c, carried, fun g u e x => may g u e (before.buildLaws x)⟩)⟩

end Sys2Proof.Machine
end

section
/-! PROOF. The thrust groups through every step. -/

namespace Sys2Proof.Machine

/-- Settles O55: by the laws of a build kept together through every operation; a RETRACT is given only where the holding
check passes at once. -/
theorem everyStepKeepsTheWithdrawalLaws : Obligations.EveryStepKeepsTheWithdrawalLaws := by
  unfold Obligations.EveryStepKeepsTheWithdrawalLaws
  intro s t keys orders halt seating withdrawal h
  have rule := StepRule.step h
  have laws : BuildLaws s := ⟨keys, orders, halt, seating, withdrawal⟩
  obtain ⟨keys', orders', halt', seating', withdrawal'⟩ := rule.laws laws
  exact ⟨keys', orders', halt', seating', withdrawal', rule.locks laws⟩

/-- Settles O56: a frame that was not on the line was sent by the arbiter, and a RETRACT that waited there could leave;
START, RESTART and the resets alone open locks. -/
theorem retractLeavesAndLocksOpenByRule : Obligations.RetractLeavesAndLocksOpenByRule := by
  unfold Obligations.RetractLeavesAndLocksOpenByRule
  intro s t g f h
  have rule := StepRule.step h
  refine ⟨fun keys orders halt seating withdrawal tx new payload => ?_, rule.byRule g⟩
  rcases rule.sent with same | none | ⟨c, ⟨f', tx', carried⟩, may⟩
  · exact absurd (same.symm.trans tx) new
  · exact absurd (none.symm.trans tx) (by simp)
  · obtain rfl : f' = f := Option.some.inj (tx'.symm.trans tx)
    obtain ⟨u, retract⟩ := command_of_retractPayload c g 0 (carried.symm.trans payload)
    exact may g u retract ⟨keys, orders, halt, seating, withdrawal⟩

end Sys2Proof.Machine
end

section
/-! SUPPORT. RETRACT, RESEAT and ACCEPT as requests: what they are handed, their refusals, and what they do (R66 to R68). -/

namespace Sys2Proof.Machine

/-! ## What an owner is handed (R143, R144) -/

/-- The state that an owner is handed while the receive queue was empty. -/
def handedState (f : CabinFrame) (s : State) : State := restartSilence (s.onClp fun c => { c with rxQueue := [f] })

/-- A request served, as its owner's answer gives it. -/
theorem receiveFrame_handed (f : CabinFrame) (row : CatalogueRow) (s : State) (h : s.clp.rxQueue = [])
    (hr : rowOf f.kind = some row) (ha : row.allows f.payload.length = true) :
    receiveFrame f s =
      placeReply (f.kind + 0x80) f.tag (row.owner f.payload (handedState f s)).2
        (row.owner f.payload (handedState f s)).1 :=
  receiveFrame_served f row s h hr ha

/-- A payload of one byte, read as a number. -/
theorem natAt_byte (n : Byte) : natAt [n] 0 1 = n.toNat := by simp [natAt, byteAt, fromBigEndian]

/-- A payload that names a group or a sector. -/
theorem natAt_index (g : Fin 7) : natAt [BitVec.ofNat 8 g.val] 0 1 = g.val := by
  rw [natAt_byte, BitVec.toNat_ofNat]
  exact Nat.mod_eq_of_lt (by omega)

/-- A payload that names a group or a sector names one of seven. -/
theorem natAt_index_lt (g : Fin 7) : natAt [BitVec.ofNat 8 g.val] 0 1 < 7 := by
  rw [natAt_index]
  exact g.isLt

/-! ## The withdrawal's checks (R66, R67) -/

/-- The groups that do not hold are those that the HOLDING ones leave of the seven. -/
theorem groupsOut_eq (s : State) : groupsOut s = 7 - holdingCount s fun _ => true := by
  have total := List.length_eq_length_filter_add (l := allGroups) fun k => (groupOf s k).state == .holding
  have seven : allGroups.length = 7 := rfl
  unfold groupsOut holdingCount
  simp only [Bool.true_and, bne]
  omega

/-- F_req is a quotient rounded up (R65). -/
theorem requiredForce_eq (s : State) (p : Nat) : requiredForce s p = holdingNeed p s := by
  unfold requiredForce holdingNeed ceilDiv
  simp only [Nat.reduceSub]

/-- A number in one byte (R145). -/
theorem encNat_byte (v : Nat) (h : v < 256) : encNat 1 v = [BitVec.ofNat 8 v] := by
  rw [encNat, if_pos (by omega)]
  simp [bigEndian]

/-- Rows 3 to 8 of the withdrawal's tables. -/
theorem withdrawalRefusal_eq (fits : Bool) (s : State) (g : Fin 7) :
    withdrawalRefusal fits s g = withdrawalAnswer fits s g := by
  have five : encNat 1 5 = [5] := encNat_byte 5 (by omega)
  have twelve : encNat 1 12 = [12] := encNat_byte 12 (by omega)
  have thirteen : encNat 1 13 = [13] := encNat_byte 13 (by omega)
  have holding : holdingRefusal s g =
      if s.fbu.valid = false ∨ s.fbu.pw = none then
        some { code := .refusedHolding, rest := [5] ++ encNat 4 0 ++ encNat 4 (othersForce g s) }
      else if s.cfb.thrust.maxRetracted ≤ groupsOut s then
        some
          { code := .refusedHolding
            rest := [12] ++ encNat 4 (holdingNeed (s.fbu.pw.getD 0) s) ++ encNat 4 (othersForce g s) }
      else if othersForce g s < holdingNeed (s.fbu.pw.getD 0) s then
        some
          { code := .refusedHolding
            rest := [13] ++ encNat 4 (holdingNeed (s.fbu.pw.getD 0) s) ++ encNat 4 (othersForce g s) }
      else none := by
    have others : holdingForceWithout s g = othersForce g s := rfl
    unfold holdingRefusal holdingFails
    rw [others, ← groupsOut_eq]
    cases need : requiredNow s with
    | none =>
      have invalid : s.fbu.valid = false ∨ s.fbu.pw = none := by
        unfold requiredNow at need
        split at need
        · exact .inr (by simpa using need)
        · rename_i h
          exact .inl (by simpa using h)
      rw [if_pos invalid, five]
      simp only [Option.getD_none]
    | some f =>
      obtain ⟨valid, p, hp, rfl⟩ := (requiredNow_eq_some s f).mp need
      have pressure : s.fbu.pw.getD 0 = p := by rw [hp]; rfl
      rw [if_neg (by simp [valid, hp]), pressure, Option.getD_some, requiredForce_eq, twelve, thirteen]
  unfold withdrawalRefusal withdrawalAnswer
  rw [holding]

/-! ## RETRACT and RESEAT (R66, R67) -/

/-- The owner of a withdrawal request, `fits` being row 4 of its table. -/
def withdrawalOwner (fits : State → Fin 7 → Bool) : Owner := fun p s =>
  if s.abu.phase ≠ .building then (s, bare .refusedState)
  else if h : natAt p 0 1 < 7 then
    match withdrawalRefusal (fits s ⟨natAt p 0 1, h⟩) s ⟨natAt p 0 1, h⟩ with
    | some a => (s, a)
    | none => (withdrawGroup ⟨natAt p 0 1, h⟩ s, bare .ok)
  else (s, bare .badItem)

/-- RETRACT is a withdrawal request. -/
theorem answerRetract_eq : answerRetract = withdrawalOwner retractFits := rfl

/-- RESEAT is a withdrawal request. -/
theorem answerReseat_eq : answerReseat = withdrawalOwner reseatFits := rfl

section
variable (fits : State → Fin 7 → Bool) (s : State)

/-- Outside BUILDING a withdrawal is refused. -/
theorem withdrawalOwner_outside (p : List Byte) (hp : s.abu.phase ≠ .building) :
    withdrawalOwner fits p s = (s, bare .refusedState) := if_pos hp

/-- A group above 6 is refused. -/
theorem withdrawalOwner_badItem (n : Byte) (hp : s.abu.phase = .building) (hn : 6 < n.toNat) :
    withdrawalOwner fits [n] s = (s, bare .badItem) := by
  rw [withdrawalOwner, if_neg (by simp [hp]), dif_neg (by rw [natAt_byte]; omega)]

/-- A withdrawal refused at rows 3 to 8. -/
theorem withdrawalOwner_refused (g : Fin 7) (a : Answer) (hp : s.abu.phase = .building)
    (refused : withdrawalAnswer (fits s g) s g = some a) :
    withdrawalOwner fits [BitVec.ofNat 8 g.val] s = (s, a) := by
  have named : (⟨natAt [BitVec.ofNat 8 g.val] 0 1, natAt_index_lt g⟩ : Fin 7) = g := Fin.ext (natAt_index g)
  rw [withdrawalOwner, if_neg (by simp [hp]), dif_pos (natAt_index_lt g), named, withdrawalRefusal_eq, refused]

/-- A withdrawal that its table lets pass. -/
theorem withdrawalOwner_taken (g : Fin 7) (hp : s.abu.phase = .building)
    (passes : withdrawalAnswer (fits s g) s g = none) :
    withdrawalOwner fits [BitVec.ofNat 8 g.val] s = (withdrawGroup g s, bare .ok) := by
  have named : (⟨natAt [BitVec.ofNat 8 g.val] 0 1, natAt_index_lt g⟩ : Fin 7) = g := Fin.ext (natAt_index g)
  rw [withdrawalOwner, if_neg (by simp [hp]), dif_pos (natAt_index_lt g), named, withdrawalRefusal_eq, passes]

end

/-- With its checks passed, a withdrawal is not refused. -/
theorem withdrawalAnswer_none {fits : Bool} {s : State} {g : Fin 7} (unlocked : (groupOf s g).lock = false)
    (fit : fits = true) (standing : (groupOf s g).state = .holding) (holds : WithdrawalHolds s g) :
    withdrawalAnswer fits s g = none := by
  obtain ⟨valid, within, some, borne⟩ := holds
  have pressure : ¬(s.fbu.valid = false ∨ s.fbu.pw = none) := by
    rintro (h | h)
    · simp [valid] at h
    · simp [h] at some
  rw [withdrawalAnswer, if_neg (by simp [unlocked]), if_neg (by simp [fit]), if_neg (by simp [standing]), if_neg pressure,
    if_neg (by omega), if_neg (by omega)]

/-- A withdrawal that passes orders the group and leaves the build as it is: the others bear the face. -/
theorem withdrawGroup_eq (g : Fin 7) (s : State) (holds : WithdrawalHolds s g) : withdrawGroup g s = withdrawn g s := by
  obtain ⟨valid, -, some, borne⟩ := holds
  obtain ⟨p, hp⟩ := Option.isSome_iff_exists.mp some
  have out : (groupOf (orderGroup g .retract s) g).state ≠ .holding := by
    rw [groupOf_orderGroup, if_pos rfl]
    simp [orderedGroup, orderedState]
  have others : holdingForceWithout (orderGroup g .retract s) g = othersForce g s := by
    unfold holdingForceWithout holdingCount othersForce
    refine congrArg (fun n => n * _) (congrArg List.length (List.filter_congr fun k _ => ?_))
    by_cases e : k = g
    · simp [e]
    · rw [groupOf_orderGroup, if_neg e]
  have stays : staysBuilding (orderGroup g .retract s) = true := by
    refine (staysBuilding_iff _).mpr ⟨valid, p, hp, ?_⟩
    rw [← holdingForceWithout_eq _ g out, others, requiredForce_eq]
    rw [hp] at borne
    exact borne
  rw [withdrawGroup, checkStay, if_neg (by simp [stays])]
  unfold orderGroup withdrawn onGroup State.onAbu updateAt queueAfter
  rfl

end Sys2Proof.Machine
end

section
/-! PROOF. RETRACT, RESEAT and ACCEPT. -/

namespace Sys2Proof.Machine

/-- RETRACT behind the receiver, with the receive queue empty. -/
theorem exec_retract (tag n : Byte) (s : State) (h : s.clp.rxQueue = []) :
    exec (.retract tag [n]) s =
      .next (settle (placeReply (0x11 + 0x80) tag
        (withdrawalOwner retractFits [n] (handedState { kind := 0x11, tag := tag, payload := [n] } s)).2
        (withdrawalOwner retractFits [n] (handedState { kind := 0x11, tag := tag, payload := [n] } s)).1)) := by
  have served := receiveFrame_handed { kind := 0x11, tag := tag, payload := [n] } ⟨0x11, (· == 1), answerRetract⟩ s h rfl rfl
  exact congrArg (fun t => Host.Outcome.next (settle t)) served

/-- RESEAT behind the receiver, with the receive queue empty. -/
theorem exec_reseat (tag n : Byte) (s : State) (h : s.clp.rxQueue = []) :
    exec (.reseat tag [n]) s =
      .next (settle (placeReply (0x12 + 0x80) tag
        (withdrawalOwner reseatFits [n] (handedState { kind := 0x12, tag := tag, payload := [n] } s)).2
        (withdrawalOwner reseatFits [n] (handedState { kind := 0x12, tag := tag, payload := [n] } s)).1)) := by
  have served := receiveFrame_handed { kind := 0x12, tag := tag, payload := [n] } ⟨0x12, (· == 1), answerReseat⟩ s h rfl rfl
  exact congrArg (fun t => Host.Outcome.next (settle t)) served

/-- The row 4 of RETRACT. -/
theorem retractFits_eq (s : State) (g : Fin 7) :
    retractFits s g = decide (s.abu.expected = some g ∧ (sectorOf s g).state = .empty) := by
  rw [Bool.eq_iff_iff]
  simp [retractFits]

/-- The row 4 of RESEAT. -/
theorem reseatFits_eq (s : State) (g : Fin 7) : reseatFits s g = decide ((sectorOf s g).state = .offset) := by
  rw [Bool.eq_iff_iff]
  simp [reseatFits]

/-- Settles O23: RETRACT and RESEAT are one table with two readings of row 4; a withdrawal that passes is borne by the
others, so the check of staying leaves the build. -/
theorem retractAndReseatWithdrawTheGroup : Obligations.RetractAndReseatWithdrawTheGroup := by
  unfold Obligations.RetractAndReseatWithdrawTheGroup
  intro tag n g s
  refine ⟨fun h => ⟨fun hp => ⟨?_, ?_⟩, fun hp hn => ⟨?_, ?_⟩, fun hp hn => ?_⟩, fun h hp unlocked standing holds =>
    ⟨fun expected empty => ?_, fun offset => ?_⟩⟩
  · rw [exec_retract tag n s h, withdrawalOwner_outside _ (handedState _ s) _ hp]
    rfl
  · rw [exec_reseat tag n s h, withdrawalOwner_outside _ (handedState _ s) _ hp]
    rfl
  · rw [exec_retract tag n s h, withdrawalOwner_badItem _ (handedState _ s) n hp hn]
    rfl
  · rw [exec_reseat tag n s h, withdrawalOwner_badItem _ (handedState _ s) n hp hn]
    rfl
  · subst hn
    refine ⟨fun a ha => ?_, fun a ha => ?_⟩
    · rw [← retractFits_eq] at ha
      rw [exec_retract tag _ s h, withdrawalOwner_refused _ (handedState _ s) g a hp ha]
      rfl
    · rw [← reseatFits_eq] at ha
      rw [exec_reseat tag _ s h, withdrawalOwner_refused _ (handedState _ s) g a hp ha]
      rfl
  · have passes := withdrawalAnswer_none unlocked ((retractFits_eq s g).trans (by simp [expected, empty])) standing holds
    rw [exec_retract tag _ s h, withdrawalOwner_taken _ (handedState _ s) g hp passes,
      withdrawGroup_eq g (handedState _ s) holds]
    rfl
  · have passes := withdrawalAnswer_none unlocked ((reseatFits_eq s g).trans (by simp [offset])) standing holds
    rw [exec_reseat tag _ s h, withdrawalOwner_taken _ (handedState _ s) g hp passes,
      withdrawGroup_eq g (handedState _ s) holds]
    rfl

end Sys2Proof.Machine
end

section
/-! SUPPORT. ACCEPT: its table, and the sector taken into the ring (R63, R68, R76). -/

namespace Sys2Proof.Machine

/-! ## The expected sector formed anew (R63) -/

/-- The expected sector formed: the ABU names it, and its item is placed when it changes. -/
theorem formExpected_eq (s : State) :
    formExpected s =
      { s with
        abu := { s.abu with expected := expectedSector s }
        mlp := queueAfter (expectedSector s != s.abu.expected) (.nextSector (expectedSector s)) s } := by
  unfold formExpected
  split
  · rename_i same
    have unchanged : (expectedSector s != s.abu.expected) = false := by simpa using same
    rw [unchanged, same]
    rfl
  · rename_i changed
    have sent : (expectedSector s != s.abu.expected) = true := by simpa using changed
    rw [sent]
    rfl

/-- When a ring closes (R76). -/
theorem closurePasses_iff (s : State) :
    closurePasses s = true ↔
      ∃ p ∈ s.rru.active,
        ((sectorOf s p.plan.keySector).state = .placed ∨ (sectorOf s p.plan.keySector).state = .accepted) ∧
          ∀ g : Fin 7, (groupOf s g).state = .holding := by
  have all (g : Fin 7) : g ∈ allGroups := by revert g; decide
  unfold closurePasses
  cases s.rru.active with
  | none => simp
  | some p => simp [seated, all]

/-! ## ACCEPT (R68) -/

/-- The state after a sector is taken as it stands, before the closure check. -/
def sectorAccepted (k : Fin 7) (s : State) : State :=
  formExpected (onGroup k (fun g => { g with lock := true }) (onSector k (fun x => { x with state := .accepted }) s))

/-- The closure check follows. -/
theorem acceptSector_eq (k : Fin 7) (s : State) : acceptSector k s = checkClosure (sectorAccepted k s) := rfl

/-- A sector taken changes its record, its group's lock, the expected sector, and that item. -/
theorem sectorAccepted_eq (k : Fin 7) (s : State) :
    sectorAccepted k s =
      { s with
        abu :=
          { s.abu with
            sectors := s.abu.sectors.set k { sectorOf s k with state := .accepted }
            groups := s.abu.groups.set k { groupOf s k with lock := true }
            expected := expectedSector (sectorAccepted k s) }
        mlp :=
          queueAfter (expectedSector (sectorAccepted k s) != s.abu.expected)
            (.nextSector (expectedSector (sectorAccepted k s))) s } := by
  unfold sectorAccepted
  rw [formExpected_eq]
  rfl

/-- A sector's record after one is taken. -/
theorem sectorOf_sectorAccepted (k j : Fin 7) (s : State) :
    sectorOf (sectorAccepted k s) j = if j = k then { sectorOf s k with state := .accepted } else sectorOf s j := by
  unfold sectorAccepted
  rw [formExpected_eq]
  exact sectorOf_onSector k j (fun x => { x with state := .accepted }) s

/-- A group's record after a sector is taken. -/
theorem groupOf_sectorAccepted (k g : Fin 7) (s : State) :
    groupOf (sectorAccepted k s) g = if g = k then { groupOf s k with lock := true } else groupOf s g := by
  unfold sectorAccepted
  rw [formExpected_eq]
  exact groupOf_onGroup k g (fun x => { x with lock := true }) (onSector k (fun x => { x with state := .accepted }) s)

/-- Whether an ACCEPT completes the ring. -/
theorem closurePasses_sectorAccepted (k : Fin 7) (s : State) :
    closurePasses (sectorAccepted k s) = true ↔
      ∃ p ∈ s.rru.active,
        (p.plan.keySector = k ∨ (sectorOf s p.plan.keySector).state = .placed ∨
          (sectorOf s p.plan.keySector).state = .accepted) ∧ ∀ g : Fin 7, (groupOf s g).state = .holding := by
  have active : (sectorAccepted k s).rru.active = s.rru.active := by rw [sectorAccepted_eq]
  have state (g : Fin 7) : (groupOf (sectorAccepted k s) g).state = (groupOf s g).state := by
    rw [groupOf_sectorAccepted]
    split
    · rename_i e
      rw [e]
    · rfl
  have key (p : ActivePlan) :
      ((sectorOf (sectorAccepted k s) p.plan.keySector).state = .placed ∨
        (sectorOf (sectorAccepted k s) p.plan.keySector).state = .accepted) ↔
      (p.plan.keySector = k ∨ (sectorOf s p.plan.keySector).state = .placed ∨
        (sectorOf s p.plan.keySector).state = .accepted) := by
    rw [sectorOf_sectorAccepted]
    by_cases e : p.plan.keySector = k <;> simp [e]
  rw [closurePasses_iff, active]
  simp only [state, key]

/-- An ACCEPT that does not complete the ring changes nothing else. -/
theorem acceptSector_open (k : Fin 7) (s : State)
    (h : ¬∃ p ∈ s.rru.active,
      (p.plan.keySector = k ∨ (sectorOf s p.plan.keySector).state = .placed ∨
        (sectorOf s p.plan.keySector).state = .accepted) ∧ ∀ g : Fin 7, (groupOf s g).state = .holding) :
    acceptSector k s = sectorAccepted k s := by
  rw [acceptSector_eq, checkClosure, if_neg]
  rintro ⟨-, closes⟩
  exact h ((closurePasses_sectorAccepted k s).mp closes)

section
variable (s : State)

/-- Outside BUILDING ACCEPT is refused. -/
theorem answerAccept_outside (p : List Byte) (hp : s.abu.phase ≠ .building) :
    answerAccept p s = (s, bare .refusedState) := if_pos hp

/-- A sector above 6 is refused. -/
theorem answerAccept_badItem (n : Byte) (hp : s.abu.phase = .building) (hn : 6 < n.toNat) :
    answerAccept [n] s = (s, bare .badItem) := by
  rw [answerAccept, if_neg (by simp [hp]), dif_neg (by rw [natAt_byte]; omega)]

/-- ACCEPT on a sector of the ring, by its table. -/
theorem answerAccept_sector (k : Fin 7) (hp : s.abu.phase = .building) :
    answerAccept [BitVec.ofNat 8 k.val] s =
      if (sectorOf s k).state ≠ .offset then (s, bare .refusedOrder)
      else if (groupOf s k).state ≠ .holding then (s, conditionFails 11)
      else (acceptSector k s, bare .ok) := by
  have named : (⟨natAt [BitVec.ofNat 8 k.val] 0 1, natAt_index_lt k⟩ : Fin 7) = k := Fin.ext (natAt_index k)
  rw [answerAccept, if_neg (by simp [hp]), dif_pos (natAt_index_lt k), named]

/-- A sector that is not OFFSET is refused. -/
theorem answerAccept_notOffset (k : Fin 7) (hp : s.abu.phase = .building) (h : (sectorOf s k).state ≠ .offset) :
    answerAccept [BitVec.ofNat 8 k.val] s = (s, bare .refusedOrder) := by rw [answerAccept_sector s k hp, if_pos h]

/-- A sector whose group does not stand on it is refused. -/
theorem answerAccept_notStanding (k : Fin 7) (hp : s.abu.phase = .building) (h : (sectorOf s k).state = .offset)
    (hg : (groupOf s k).state ≠ .holding) :
    answerAccept [BitVec.ofNat 8 k.val] s = (s, { code := .refusedCondition, rest := [11] }) := by
  rw [answerAccept_sector s k hp, if_neg (by simp [h]), if_pos hg, conditionFails, encNat_byte 11 (by omega)]
  rfl

/-- An OFFSET sector whose group stands on it is taken. -/
theorem answerAccept_taken (k : Fin 7) (hp : s.abu.phase = .building) (h : (sectorOf s k).state = .offset)
    (hg : (groupOf s k).state = .holding) :
    answerAccept [BitVec.ofNat 8 k.val] s = (acceptSector k s, bare .ok) := by
  rw [answerAccept_sector s k hp, if_neg (by simp [h]), if_neg (by simp [hg])]

end

/-- ACCEPT behind the receiver, with the receive queue empty. -/
theorem exec_accept (tag n : Byte) (s : State) (h : s.clp.rxQueue = []) :
    exec (.accept tag [n]) s =
      .next (settle (placeReply (0x13 + 0x80) tag
        (answerAccept [n] (handedState { kind := 0x13, tag := tag, payload := [n] } s)).2
        (answerAccept [n] (handedState { kind := 0x13, tag := tag, payload := [n] } s)).1)) := by
  have served := receiveFrame_handed { kind := 0x13, tag := tag, payload := [n] } ⟨0x13, (· == 1), answerAccept⟩ s h rfl rfl
  exact congrArg (fun t => Host.Outcome.next (settle t)) served

/-- ACCEPT of an OFFSET sector whose group stands on it. -/
theorem exec_accept_taken (tag : Byte) (k : Fin 7) (s : State) (h : s.clp.rxQueue = []) (hp : s.abu.phase = .building)
    (offset : (sectorOf s k).state = .offset) (standing : (groupOf s k).state = .holding) :
    exec (.accept tag [BitVec.ofNat 8 k.val]) s =
      .next (settle (placeReply (0x13 + 0x80) tag (bare .ok)
        (acceptSector k (handedState { kind := 0x13, tag := tag, payload := [BitVec.ofNat 8 k.val] } s)))) := by
  rw [exec_accept tag _ s h, answerAccept_taken (handedState _ s) k hp offset standing]

end Sys2Proof.Machine
end

section
/-! PROOF. ACCEPT while the ring stays open. -/

namespace Sys2Proof.Machine

/-- Settles O24: the rows of ACCEPT's table; a sector taken that leaves the ring open passes the closure check by. -/
theorem acceptTakesTheSectorIntoTheRing : Obligations.AcceptTakesTheSectorIntoTheRing := by
  unfold Obligations.AcceptTakesTheSectorIntoTheRing
  intro tag n k s
  refine ⟨fun h => ⟨fun hp => ?_, fun hp hn => ?_, fun hp hn offset => ?_, fun hp hn offset moving => ?_⟩,
    fun h hp offset standing stays => ?_⟩
  · rw [exec_accept tag n s h, answerAccept_outside (handedState _ s) _ hp]
    rfl
  · rw [exec_accept tag n s h, answerAccept_badItem (handedState _ s) n hp hn]
    rfl
  · subst hn
    rw [exec_accept tag _ s h, answerAccept_notOffset (handedState _ s) k hp offset]
    rfl
  · subst hn
    rw [exec_accept tag _ s h, answerAccept_notStanding (handedState _ s) k hp offset moving]
    rfl
  · refine ⟨_, exec_accept_taken tag k s h hp offset standing, ?_⟩
    rw [acceptSector_open k (handedState _ s) stays]
    have taken := sectorAccepted_eq k (handedState { kind := 0x13, tag := tag, payload := [BitVec.ofNat 8 k.val] } s)
    refine ⟨congrArg State.abu taken, congrArg State.mlp taken, ?_, ?_⟩ <;>
      · rw [taken]
        rfl

end Sys2Proof.Machine
end

section
/-! SUPPORT. Changes of phase outside BORING, and the suspension of a build: what it sets, what it orders, and what it
leaves (R7, R8, R73, R74). -/

namespace Sys2Proof.Machine

/-! ## Changes of phase outside BORING (R7, R8, R40, R83) -/

/-- Between two phases other than BORING the rate, the held indicator and the command sent stay. -/
theorem setPhase_outsideBoring (p : Phase) (s : State) (law : RateLaw s) (hs : s.abu.phase ≠ .boring) (hp : p ≠ .boring) :
    setPhase p s = withPhase p s := by
  obtain ⟨effective, held, sent⟩ := law
  have noHeld : heldIndicator p s.abu.caps = s.abu.held := by rw [held]; simp [heldIndicator, hs, hp]
  have noRate (r : Nat) : rateCommand p r = s.abu.rateSent := by rw [sent]; simp [rateCommand, hs, hp]
  unfold setPhase withPhase State.onAbu
  rw [recomputeRate_eq]
  simp only [abuWithCaps, noHeld, noRate, ← effective, hp, false_and, if_false, queueAfter, bne_self_eq_false,
    Bool.false_eq_true]

/-! ## What is kept, composed -/

/-- An item placed or not, the Machine Line Port keeps all but its queue. -/
theorem queueAfter_frame (changed : Bool) (c : Command) (s : State) :
    queueAfter changed c s = { s.mlp with queue := (queueAfter changed c s).queue } := by
  unfold queueAfter
  split <;> rfl

/-- What two commands leave, they leave together. -/
theorem outsideKept_trans {s t u : State} (first : OutsideKept s t) (second : OutsideKept t u) : OutsideKept s u := by
  obtain ⟨cfb, ms, pending, mlp⟩ := first
  obtain ⟨cfb', ms', pending', mlp'⟩ := second
  refine ⟨cfb'.trans cfb, ms'.trans ms, pending'.trans pending, ?_⟩
  rw [mlp', mlp]

/-! ## The screw and the lines at a change of phase (R40, R83) -/

/-- The screw command formed changes that command and the command queue, and nothing else. -/
theorem formScrew_frame (s : State) :
    formScrew s =
      { s with
        fbu := { s.fbu with screwSent := (formScrew s).fbu.screwSent }
        mlp := { s.mlp with queue := (formScrew s).mlp.queue } } := by
  rw [formScrew_eq]
  unfold queueAfter
  split <;> rfl

/-- What follows a change of phase changes the screw command, the lines and the command queue, and nothing else. -/
theorem followPhase_frame (s : State) :
    followPhase s =
      { s with
        fbu := { s.fbu with screwSent := (followPhase s).fbu.screwSent }
        gru := { s.gru with lines := (followPhase s).gru.lines }
        mlp := { s.mlp with queue := (followPhase s).mlp.queue } } := by
  have chosen := issueAll_frame (formScrew s)
  rw [← show followPhase s = issueAll (formScrew s) from rfl] at chosen
  have screw : (followPhase s).fbu = (formScrew s).fbu := by rw [chosen]
  calc followPhase s
      = { formScrew s with
          gru := { (formScrew s).gru with lines := (followPhase s).gru.lines }
          mlp := { (formScrew s).mlp with queue := (followPhase s).mlp.queue } } := chosen
    _ = _ := by
      rw [screw]
      generalize (followPhase s).gru.lines = ls
      generalize (followPhase s).mlp.queue = q
      rw [formScrew_frame]

/-- What follows a change of phase keeps every line's state. -/
theorem followPhase_state (l : Fin 6) (s : State) : (lineOf (followPhase s) l).state = (lineOf s l).state := by
  unfold followPhase
  rw [issueAll_state, formScrew_eq]
  rfl

/-! ## The groups at a suspension (R74) -/

/-- A group's part of a suspension changes its record and the command queue, and nothing else. -/
theorem suspendGroup_frame (g : Fin 7) (s : State) :
    suspendGroup g s =
      { s with
        abu := { s.abu with groups := (suspendGroup g s).abu.groups }
        mlp := { s.mlp with queue := (suspendGroup g s).mlp.queue } } := by
  unfold suspendGroup
  simp only
  split
  · rfl
  · split <;> rfl
  all_goals rfl

/-- A group's record after its part of a suspension. -/
theorem groupOf_suspendGroup (g : Fin 7) (s : State) :
    groupOf (suspendGroup g s) g = suspendedGroup s.ms (groupOf s g) := by
  unfold suspendGroup suspendedGroup
  simp only
  split
  · rename_i out
    rw [groupOf_orderGroup, if_pos rfl, if_pos out]
    rfl
  · rename_i leaving
    split
    · rename_i queued
      rw [groupOf_orderGroup, if_pos rfl, if_neg (by simp [leaving]), if_pos ⟨leaving, queued⟩]
      rfl
    · rename_i left
      rw [groupOf_onGroup, if_pos rfl, if_neg (by simp [leaving]), if_neg (by simp [left])]
  all_goals
    rename_i other
    simp [other]

/-- The order that a suspension gives a group (R74). -/
def suspensionOrder (x : Group) : Option GroupOrder :=
  if x.state = .retracted then some .recover
  else if x.state = .retracting ∧ x.orderQueued = true then some .hold
  else none

/-- What waits after a group's part of a suspension. -/
theorem itemWaits_suspendGroup (g : Fin 7) (d : Command) (s : State) :
    ItemWaits d (suspendGroup g s) ↔
      match suspensionOrder (groupOf s g) with
      | some o => if keyOf d = .groupOrder g then d = .groupOrder g o 0 else ItemWaits d s
      | none => ItemWaits d s := by
  unfold suspendGroup
  simp only
  split
  · rename_i out
    have order : suspensionOrder (groupOf s g) = some .recover := by simp [suspensionOrder, out]
    rw [itemWaits_orderGroup_iff, order]
    rfl
  · rename_i leaving
    split
    · rename_i queued
      have order : suspensionOrder (groupOf s g) = some .hold := by simp [suspensionOrder, leaving, queued]
      rw [itemWaits_orderGroup_iff, order]
      rfl
    · rename_i left
      have order : suspensionOrder (groupOf s g) = none := by simp [suspensionOrder, leaving, left]
      rw [order]
      rfl
  all_goals
    rename_i other
    have order : suspensionOrder (groupOf s g) = none := by simp [suspensionOrder, other]
    rw [order]

/-- A group's part of a suspension leaves what waits for a group that it does not order. -/
theorem itemWaits_suspendGroup_kept {g : Fin 7} {d : Command} {s : State}
    (h : keyOf d = .groupOrder g → suspensionOrder (groupOf s g) = none) (waits : ItemWaits d s) :
    ItemWaits d (suspendGroup g s) := by
  rw [itemWaits_suspendGroup]
  cases order : suspensionOrder (groupOf s g) with
  | none => exact waits
  | some o =>
    have other : keyOf d ≠ .groupOrder g := fun e => by simp [h e] at order
    exact (if_neg other).mpr waits

/-- What a suspension does to the groups in a list. -/
structure GroupsSuspended (gs : List (Fin 7)) (s u : State) : Prop where
  frame : u = { s with
    abu := { s.abu with groups := u.abu.groups }
    mlp := { s.mlp with queue := u.mlp.queue } }
  group : ∀ g, groupOf u g = if g ∈ gs then suspendedGroup s.ms (groupOf s g) else groupOf s g
  ordered : ∀ g ∈ gs, ∀ o, suspensionOrder (groupOf s g) = some o → ItemWaits (.groupOrder g o 0) u
  kept : ∀ d, (∀ g ∈ gs, keyOf d = .groupOrder g → suspensionOrder (groupOf s g) = none) → ItemWaits d s → ItemWaits d u

/-- A suspension acts on each group in turn, on each as it stood. -/
theorem groupsSuspended_foldl (gs : List (Fin 7)) (once : gs.Nodup) (s : State) :
    GroupsSuspended gs s (gs.foldl (fun t g => suspendGroup g t) s) := by
  induction gs generalizing s with
  | nil => exact ⟨rfl, fun _ => by simp, by simp, fun _ _ h => h⟩
  | cons g gs ih =>
    obtain ⟨new, once⟩ := List.nodup_cons.mp once
    have first := suspendGroup_frame g s
    have rest := ih once (suspendGroup g s)
    have time : (suspendGroup g s).ms = s.ms := by rw [first]
    have others (k : Fin 7) (hk : k ∈ gs) : groupOf (suspendGroup g s) k = groupOf s k :=
      groupOf_suspendGroup_other g k s fun e => new (e ▸ hk)
    have lead (o : GroupOrder) (k : Fin 7) (hk : k ∈ gs) : keyOf (.groupOrder g o 0) ≠ .groupOrder k := by
      simp only [keyOf, ne_eq, ItemKey.groupOrder.injEq]
      rintro rfl
      exact new hk
    simp only [List.foldl_cons]
    refine ⟨?_, fun k => ?_, fun k hk o order => ?_, fun d free waits => ?_⟩
    · have after := rest.frame
      generalize List.foldl (fun t g => suspendGroup g t) (suspendGroup g s) gs = u at after
      rw [first] at after
      exact after
    · rw [rest.group, time]
      by_cases e : k = g
      · subst e
        rw [if_neg new, if_pos List.mem_cons_self, groupOf_suspendGroup]
      · rw [groupOf_suspendGroup_other g k s e]
        simp [e]
    · rcases List.mem_cons.mp hk with rfl | later
      · refine rest.kept _ (fun j hj same => absurd same (lead o j hj)) ?_
        rw [itemWaits_suspendGroup, order]
        exact (if_pos rfl).mpr rfl
      · exact rest.ordered k later o (by rw [others k later]; exact order)
    · refine rest.kept d (fun k hk same => ?_) (itemWaits_suspendGroup_kept (free g List.mem_cons_self) waits)
      rw [others k hk]
      exact free k (List.mem_cons_of_mem _ hk) same

/-- The list of all groups holds every group. -/
theorem mem_allGroups (g : Fin 7) : g ∈ allGroups := by revert g; decide

/-- A suspension acts on all seven groups. -/
theorem groupsSuspended (s : State) : GroupsSuspended allGroups s (suspendGroups s) :=
  groupsSuspended_foldl allGroups (by decide) s

/-! ## The suspension whole (R73, R74) -/

/-- A build suspended: what `BuildSuspends` says, with the settings, the time and the Machine Line Port beside its queue as
they were, and the orders of the groups that it leaves alone waiting on. -/
theorem suspendBuild_effect (s : State) (law : RateLaw s) (hp : s.abu.phase = .building) :
    BuildSuspends s (suspendBuild s) ∧ OutsideKept s (suspendBuild s) ∧
      (suspendBuild s).clp = toldClp (some (.buildSuspended (!s.fbu.valid))) s ∧
      ∀ g o t, suspensionOrder (groupOf s g) = none → ItemWaits (.groupOrder g o t) s →
        ItemWaits (.groupOrder g o t) (suspendBuild s) := by
  have counted : suspensionCounted s =
      { s with
        abu := { s.abu with phase := .buildSuspended, suspensions := heldAdd 255 s.abu.suspensions 1 }
        clp := toldClp (some (.buildSuspended (!s.fbu.valid))) s } := by
    rw [suspensionCounted, setPhase_outsideBoring _ s law (by simp [hp]) (by simp), queueEvent_eq]
    rfl
  have suspended := groupsSuspended (suspensionCounted s)
  have recovered := suspended.frame
  have followed := followPhase_frame (suspendGroups (suspensionCounted s))
  have followedOrders := (BuildKept.followPhase (suspendGroups (suspensionCounted s))).orders
  have lines (l : Fin 6) := followPhase_state l (suspendGroups (suspensionCounted s))
  rw [← suspendBuild_eq] at followed followedOrders lines
  have group (g : Fin 7) : groupOf (suspensionCounted s) g = groupOf s g := by rw [counted]; rfl
  have time : (suspensionCounted s).ms = s.ms := by rw [counted]
  have groups : (suspendGroups (suspensionCounted s)).abu.groups =
      Vector.ofFn fun g : Fin 7 => suspendedGroup s.ms (groupOf s g) := by
    refine Vector.ext fun k hk => ?_
    have here := suspended.group ⟨k, hk⟩
    rw [if_pos (mem_allGroups _), group, time] at here
    rw [Vector.getElem_ofFn]
    exact here
  generalize suspendGroups (suspensionCounted s) = r at *
  generalize suspendBuild s = u at *
  rw [counted] at recovered
  have abu : u.abu =
      { s.abu with
        phase := .buildSuspended, suspensions := min 255 (s.abu.suspensions + 1)
        groups := Vector.ofFn fun g : Fin 7 => suspendedGroup s.ms (groupOf s g) } := by
    rw [← groups]
    exact (congrArg State.abu followed).trans (congrArg State.abu recovered)
  have clp : u.clp = toldClp (some (.buildSuspended (!s.fbu.valid))) s :=
    (congrArg State.clp followed).trans (congrArg State.clp recovered)
  have ms := congrArg State.ms followed
  rw [congrArg State.ms recovered] at ms
  have orders (g : Fin 7) (o : GroupOrder) (h : suspensionOrder (groupOf s g) = some o) : ItemWaits (.groupOrder g o 0) u :=
    (followedOrders g o 0).mpr (suspended.ordered g (mem_allGroups g) o (by rw [group]; exact h))
  have kept (g : Fin 7) (o : GroupOrder) (t : Int) (h : suspensionOrder (groupOf s g) = none)
      (waits : ItemWaits (.groupOrder g o t) s) : ItemWaits (.groupOrder g o t) u := by
    refine (followedOrders g o t).mpr (suspended.kept _ (fun k _ same => ?_) ?_)
    · obtain rfl : g = k := by simpa [keyOf] using same
      rw [group]
      exact h
    · rw [counted]
      exact waits
  have told : EventWaits (.buildSuspended (!s.fbu.valid)) u := by
    obtain ⟨e, he, body, stamp⟩ := eventWaits_queueEvent (.buildSuspended (!s.fbu.valid)) s
    rw [queueEvent_eq] at he stamp
    exact ⟨e, by rw [clp]; exact he, body, by rw [ms]; exact stamp⟩
  refine ⟨⟨abu, fun g => ⟨fun out => ?_, fun leaving queued => ?_⟩, told, ?_, ?_, ?_, ?_, ?_, fun l => ?_⟩,
    ⟨?_, ms, ?_, ?_⟩, clp, kept⟩
  · exact orders g .recover (by simp [suspensionOrder, out])
  · exact orders g .hold (by simp [suspensionOrder, leaving, queued])
  · have chm := congrArg State.chm followed
    rw [congrArg State.chm recovered] at chm
    exact chm
  · have mbu := congrArg State.mbu followed
    rw [congrArg State.mbu recovered] at mbu
    exact mbu
  · have rru := congrArg State.rru followed
    rw [congrArg State.rru recovered] at rru
    exact rru
  · have fbu := congrArg State.fbu followed
    rw [congrArg State.fbu recovered] at fbu
    exact fbu
  · have gru := congrArg State.gru followed
    rw [congrArg State.gru recovered] at gru
    exact gru
  · rw [lines l, lineOf, congrArg State.gru recovered]
    rfl
  · have cfb := congrArg State.cfb followed
    rw [congrArg State.cfb recovered] at cfb
    exact cfb
  · have pending := congrArg State.pending followed
    rw [congrArg State.pending recovered] at pending
    exact pending
  · have mlp := congrArg State.mlp followed
    rw [congrArg State.mlp recovered] at mlp
    exact mlp

end Sys2Proof.Machine
end


section
/-! PROOF. Seat reports (R69 to R73). -/

namespace Sys2Proof.Machine

/-- A seat report from the erector is delivered to the ABU as sector and gap. -/
theorem exec_seatReport_heard (address sequence : Byte) (p : List Byte) (s : State)
    (h : HeardWell s .erector { kind := 0x02, address := address, sequence := sequence, payload := p })
    (first : byteAt p 0 = 0) :
    exec (.seatReport address sequence p) s =
      .next (settle (seatReport (natAt p 1 1) (natAt p 2 2) (heardOnly s .erector sequence))) := by
  have delivered : deliver .erector { kind := 0x02, address := address, sequence := sequence, payload := p }
      (heardOnly s .erector sequence) = seatReport (natAt p 1 1) (natAt p 2 2) (heardOnly s .erector sequence) :=
    if_pos first
  rw [← delivered]
  exact congrArg (fun t => Host.Outcome.next (settle t)) (machineFrame_heardWell _ _ _ h)

/-- A seat report rejected tells why, and changes nothing else (R71). -/
theorem seatReport_rejected (sector gap : Nat) (sequence : Byte) (reason : SeatReason) (s : State)
    (rejected : seatRejection s sector = some reason) :
    seatReport sector gap (heardOnly s .erector sequence) =
      { heardOnly s .erector sequence with clp := toldClp (some (.seatRejected sector reason)) s } := by
  have same : seatRejection (heardOnly s .erector sequence) sector = some reason := rejected
  rw [seatReport, same]
  exact queueEvent_eq _ _

/-- A seat report that no check rejects is taken. -/
theorem seatReport_taken (k : Fin 7) (gap : Nat) (sequence : Byte) (s : State) (passes : seatRejection s k.val = none) :
    seatReport k.val gap (heardOnly s .erector sequence) = takeSeat k gap (heardOnly s .erector sequence) := by
  have same : seatRejection (heardOnly s .erector sequence) k.val = none := passes
  rw [seatReport, same]
  exact dif_pos k.isLt

/-- R71 on a sector of the ring in BUILDING. -/
theorem seatRejection_building (k : Fin 7) (s : State) (hp : s.abu.phase = .building) :
    seatRejection s k.val =
      if (sectorOf s k).state = .placed ∨ (sectorOf s k).state = .accepted then some .occupied
      else if s.abu.expected ≠ some k then some .order
      else if (groupOf s k).state ≠ .retracted then some .notRetracted
      else none := by
  rw [seatRejection, if_neg (by simp [hp]), if_neg (by simp [hp]), dif_pos k.isLt]
  simp only [seated, Bool.or_eq_true, beq_iff_eq]

/-- A group locked and ordered is one change of its record. -/
theorem orderGroup_locked (k : Fin 7) (o : GroupOrder) (s : State) :
    orderGroup k o (onGroup k (fun x => { x with lock := true }) s) =
      placeItem (groupCommand s k o) (onGroup k (fun x => orderedGroup s o { x with lock := true }) s) :=
  congrArg (placeItem (groupCommand s k o)) (onGroup_onGroup k (orderedGroup s o) (fun x => { x with lock := true }) s)

/-- A seat taken, before the expected sector is formed anew: `seatTaken`, with SHOVE placed and an OFFSET seat told. -/
theorem seatOrdered_eq (k : Fin 7) (gap : Nat) (sequence : Byte) (s : State) :
    orderGroup k .shove (seatSector k gap (heardOnly s .erector sequence)) =
      { seatTaken s k gap sequence with
        mlp := { heardMlp s .erector sequence with queue := placedQueue (.groupOrder k .shove 0) s.mlp.queue }
        clp := toldClp (if s.cfb.thrust.seatTol < gap then some (.seatOffset k gap) else none) s } := by
  by_cases within : gap ≤ s.cfb.thrust.seatTol
  · have near : ¬s.cfb.thrust.seatTol < gap := by omega
    have tolerated : gap ≤ (heardOnly s .erector sequence).cfb.thrust.seatTol := within
    unfold seatSector seatTaken
    simp only [if_pos tolerated, if_pos within, if_neg near]
    rw [orderGroup_locked]
    rfl
  · have far : s.cfb.thrust.seatTol < gap := by omega
    have beyond : ¬gap ≤ (heardOnly s .erector sequence).cfb.thrust.seatTol := within
    unfold seatSector seatTaken
    simp only [if_neg beyond, if_neg within, if_pos far]
    rw [queueEvent_eq]
    rfl

/-- SHOVE placed and an OFFSET seat told are beside the expected sector. -/
theorem expectedSector_seatOrdered (k : Fin 7) (gap : Nat) (sequence : Byte) (s m : State)
    (hm : m = seatTaken s k gap sequence) :
    expectedSector (orderGroup k .shove (seatSector k gap (heardOnly s .erector sequence))) = expectedSector m := by
  rw [seatOrdered_eq, hm]
  exact expectedSector_congr rfl fun _ => rfl

/-- A seat taken, before the check of staying. -/
def seatFormed (k : Fin 7) (gap : Nat) (sequence : Byte) (s : State) : State :=
  formExpected (orderGroup k .shove (seatSector k gap (heardOnly s .erector sequence)))

/-- A seat taken is `seatTaken` with the expected sector formed anew, and what it sends and tells. -/
theorem seatFormed_eq (k : Fin 7) (gap : Nat) (sequence : Byte) (s m : State) (hm : m = seatTaken s k gap sequence) :
    seatFormed k gap sequence s =
      { m with
        abu := { m.abu with expected := expectedSector m }
        mlp := (seatFormed k gap sequence s).mlp
        clp := toldClp (if s.cfb.thrust.seatTol < gap then some (.seatOffset k gap) else none) s } := by
  have sector := expectedSector_seatOrdered k gap sequence s m hm
  unfold seatFormed
  rw [formExpected_eq, sector, seatOrdered_eq, hm]

/-- The Machine Line Port after a seat is taken, but for its queue. -/
theorem seatFormed_mlp (k : Fin 7) (gap : Nat) (sequence : Byte) (s : State) :
    (seatFormed k gap sequence s).mlp =
      { heardMlp s .erector sequence with queue := (seatFormed k gap sequence s).mlp.queue } := by
  unfold seatFormed
  rw [formExpected_eq, seatOrdered_eq]
  exact queueAfter_frame _ _ _

/-- A seat taken sends SHOVE. -/
theorem seatFormed_shove (k : Fin 7) (gap : Nat) (sequence : Byte) (s : State) :
    ItemWaits (.groupOrder k .shove 0) (seatFormed k gap sequence s) := by
  unfold seatFormed
  refine ((BuildKept.formExpected _).orders k .shove 0).mpr ?_
  rw [seatOrdered_eq]
  exact placedQueue_mem _ _

/-- A seat taken sends the expected sector when it changes. -/
theorem seatFormed_next (k : Fin 7) (gap : Nat) (sequence : Byte) (s m : State) (hm : m = seatTaken s k gap sequence)
    (hk : s.abu.expected = some k) (moved : expectedSector m ≠ some k) :
    ItemWaits (.nextSector (expectedSector m)) (seatFormed k gap sequence s) := by
  have sector := expectedSector_seatOrdered k gap sequence s m hm
  have before : (orderGroup k .shove (seatSector k gap (heardOnly s .erector sequence))).abu.expected = some k := by
    rw [seatOrdered_eq]
    exact hk
  have changes : (expectedSector m != some k) = true := by simpa using moved
  unfold seatFormed
  rw [formExpected_eq, sector, before, changes]
  exact placedQueue_mem _ _

/-- The check of staying reads the face and the groups alone. -/
theorem staysBuilding_seatFormed (k : Fin 7) (gap : Nat) (sequence : Byte) (s m : State)
    (hm : m = seatTaken s k gap sequence) : staysBuilding (seatFormed k gap sequence s) = true ↔ BearsFace m := by
  rw [staysBuilding_iff, seatFormed_eq k gap sequence s m hm]
  simp only [requiredForce_eq]
  exact Iff.rfl

/-- What a suspension does is beside the ports of the state that it suspends. -/
theorem BuildSuspends.of_ports {m u : State} (mlp : Mlp) (clp : Clp)
    (h : BuildSuspends { m with mlp := mlp, clp := clp } u) : BuildSuspends m u := h

/-- Settles O43: the rows of R71 one by one, and the seat taken with both outcomes of the check of staying. -/
theorem seatIsJudgedAndTaken : Obligations.SeatIsJudgedAndTaken := by
  unfold Obligations.SeatIsJudgedAndTaken
  intro address sequence p k o s m
  refine ⟨fun heard first => ⟨fun hb hs => ?_, fun hs => ?_, fun hb beyond => ?_, fun hb named fails => ?_⟩,
    fun heard first hb named seat hk out _ law hm => ?_⟩
  · rw [exec_seatReport_heard address sequence p s heard first,
      seatReport_rejected _ _ sequence .phase s (if_pos ⟨hb, hs⟩)]
  · rw [exec_seatReport_heard address sequence p s heard first, seatReport_rejected _ _ sequence .suspended s]
    rw [seatRejection, if_neg (by simp [hs]), if_pos hs]
  · rw [exec_seatReport_heard address sequence p s heard first, seatReport_rejected _ _ sequence .order s]
    rw [seatRejection, if_neg (by simp [hb]), if_neg (by simp [hb]), dif_neg (by omega)]
  · rw [exec_seatReport_heard address sequence p s heard first, named]
    refine congrArg (fun t => Host.Outcome.next (settle t)) (seatReport_rejected _ _ sequence _ s ?_)
    rw [seatRejection_building k s hb]
    split_ifs with occupied other standing
    · rfl
    · rfl
    · rfl
    · rcases fails with h | h | h | h
      · exact absurd (.inl h) occupied
      · exact absurd (.inr h) occupied
      · exact absurd h other
      · exact absurd h standing
  · have passes : seatRejection s k.val = none := by
      rw [seatRejection_building k s hb, if_neg (by rcases seat with h | h <;> simp [h]), if_neg (by simp [hk]),
        if_neg (by simp [out])]
    have taken : exec (.seatReport address sequence p) s =
        .next (settle (checkStay (seatFormed k (natAt p 2 2) sequence s))) := by
      rw [exec_seatReport_heard address sequence p s heard first, named, seatReport_taken k _ sequence s passes]
      rfl
    have formed := seatFormed_eq k (natAt p 2 2) sequence s m hm
    have port := seatFormed_mlp k (natAt p 2 2) sequence s
    have shoved := seatFormed_shove k (natAt p 2 2) sequence s
    have next := seatFormed_next k (natAt p 2 2) sequence s m hm hk
    have stays := staysBuilding_seatFormed k (natAt p 2 2) sequence s m hm
    rw [taken]
    generalize seatFormed k (natAt p 2 2) sequence s = t at *
    have clp : t.clp = toldClp (if s.cfb.thrust.seatTol < natAt p 2 2 then some (.seatOffset k (natAt p 2 2)) else none) s :=
      congrArg State.clp formed
    have outside : OutsideKept (heardOnly s .erector sequence) t := by
      refine ⟨?_, ?_, ?_, port⟩ <;>
        · rw [formed, hm]
          rfl
    refine ⟨fun bears => ⟨t, ?_, ?_, shoved, next, clp, outside⟩, fun unborne => ⟨suspendBuild t, ?_, ?_⟩⟩
    · rw [checkStay, if_neg (by simp [stays.mpr bears])]
    · rw [clp]
      exact formed
    · have phase : t.abu.phase = .building := by
        rw [formed, hm]
        exact hb
      rw [checkStay, if_pos ⟨phase, by simpa using fun h => unborne (stays.mp h)⟩]
    · have rates : RateLaw t := by
        rw [formed, hm]
        exact law
      have phase : t.abu.phase = .building := by
        rw [formed, hm]
        exact hb
      have shoving : (groupOf t k).state = .shoving := by
        rw [formed, hm]
        simp [groupOf, seatTaken]
      obtain ⟨suspends, kept, -, waits⟩ := suspendBuild_effect t rates phase
      refine ⟨?_, waits k .shove 0 (by simp [suspensionOrder, shoving]) shoved, outsideKept_trans outside kept⟩
      generalize suspendBuild t = u at suspends
      rw [formed] at suspends
      exact .of_ports _ _ suspends

end Sys2Proof.Machine
end


section
/-! SUPPORT. The closure of a ring: its record, the next plan, and what beside them changes (R76, R77, R124, R129). -/

namespace Sys2Proof.Machine

/-! ## The newest record alone carries its number (R126) -/

/-- Numbers that follow one another increase. -/
theorem consecutiveFrom_increases (start : Option Nat) (l : List Nat) (h : consecutiveFrom start l = true) :
    l.Pairwise (· < ·) ∧ ∀ m ∈ start, ∀ n ∈ l, m < n := by
  induction l generalizing start with
  | nil => exact ⟨.nil, by simp⟩
  | cons n ns ih =>
    have rest : consecutiveFrom (some n) ns = true := by
      cases start with
      | none => exact h
      | some m => exact (Bool.and_eq_true_iff.mp h).2
    obtain ⟨increasing, above⟩ := ih (some n) rest
    refine ⟨.cons (above n rfl) increasing, fun m hm x hx => ?_⟩
    obtain rfl := Option.mem_def.mp hm
    have next : n = m + 1 := by simpa using (Bool.and_eq_true_iff.mp h).1
    rcases List.mem_cons.mp hx with rfl | later
    · omega
    · have := above n rfl x later
      omega

/-- No older record has the newest one's number. -/
theorem ring_ne_of_older {s : State} {older : List RingRecord} {r : RingRecord} (law : NumberingLaw s)
    (records : s.rru.records = older ++ [r]) (x : RingRecord) (hx : x ∈ older) : x.plan.ring ≠ r.plan.ring := by
  obtain ⟨increasing, -⟩ := consecutiveFrom_increases none _ law
  have own := (List.pairwise_append.mp (List.pairwise_append.mp increasing).1).1
  rw [records, List.map_append] at own
  have below := (List.pairwise_append.mp own).2.2 x.plan.ring (List.mem_map_of_mem hx) r.plan.ring (by simp)
  omega

/-- A record is the newest of a table, is OPEN, alone is so, and alone has its number. -/
structure NewestOpened (r : RingRecord) (records : List RingRecord) : Prop where
  newest : records = records.dropLast ++ [r]
  opened : r.status = .opened
  unbuilt : r.buildFinal = false
  others : ∀ x ∈ records.dropLast, x.status ≠ .opened
  numbers : ∀ x ∈ records.dropLast, x.plan.ring ≠ r.plan.ring

/-- A state with other records, of which the newest is `x`. -/
def withNewest (older : List RingRecord) (x : RingRecord) (s : State) : State :=
  { s with rru := { s.rru with records := older ++ [x] } }

/-- The records taken apart. -/
theorem withNewest_self {s : State} {older : List RingRecord} {r : RingRecord} (records : s.rru.records = older ++ [r]) :
    withNewest older r s = s := by
  unfold withNewest
  rw [← records]

section
variable {older : List RingRecord} {x : RingRecord} {n : Nat} (s : State)

/-- A change of the records of the newest one's number is a change of the newest record. -/
theorem onRecord_newest (f : RingRecord → RingRecord) (number : x.plan.ring = n)
    (others : ∀ y ∈ older, y.plan.ring ≠ n) :
    onRecord n f (withNewest older x s) = withNewest older (f x) s := by
  have same : older.map (fun r => if r.plan.ring = n then f r else r) = older :=
    (List.map_congr_left fun y hy => if_neg (others y hy)).trans (List.map_id' older)
  unfold onRecord State.onRru withNewest
  simp only [List.map_append, same, List.map_cons, List.map_nil, if_pos number]

/-- A change of the OPEN record, when the newest alone is OPEN, is a change of that one. -/
theorem onOpenRecord_newest (f : RingRecord → RingRecord) (opened : x.status = .opened) (building : x.buildFinal = false)
    (others : ∀ y ∈ older, y.status ≠ .opened) : onOpenRecord f (withNewest older x s) = withNewest older (f x) s := by
  have same : older.map (fun r => if r.status = .opened ∧ r.buildFinal = false then f r else r) = older :=
    (List.map_congr_left fun y hy => if_neg fun ⟨h, _⟩ => others y hy h).trans (List.map_id' older)
  unfold onOpenRecord State.onRru withNewest
  simp only [List.map_append, same, List.map_cons, List.map_nil, if_pos (And.intro opened building)]

/-- An event names the newest record's number, whatever else of it changes. -/
theorem onRecord_newest_told (f : RingRecord → RingRecord) (b : EventBody) (number : x.plan.ring = n)
    (kept : (f x).plan = x.plan) (others : ∀ y ∈ older, y.plan.ring ≠ n) :
    onRecord n f (queueEvent b (withNewest older x s)) = queueEvent b (withNewest older (f x) s) := by
  have ring (y : RingRecord) : newestNumber (withNewest older y s) = y.plan.ring := by simp [newestNumber, withNewest]
  have told (y : RingRecord) : queueEvent b (withNewest older y s) = withNewest older y (queueEventFor y.plan.ring b s) := by
    rw [queueEvent_eq, ring, queueEventFor_eq]
    rfl
  rw [told, told, kept]
  exact onRecord_newest _ f number others

/-- The record of the newest one's number is the newest. -/
theorem find_newest (number : x.plan.ring = n) (others : ∀ y ∈ older, y.plan.ring ≠ n) :
    (withNewest older x s).rru.records.find? (fun r => r.plan.ring == n) = some x := by
  have none : older.find? (fun r => r.plan.ring == n) = none := List.find?_eq_none.mpr fun y hy => by simp [others y hy]
  unfold withNewest
  rw [List.find?_append, none]
  simp [number]

/-- The OPEN record's number is the newest one's. -/
theorem openRing_newest (opened : x.status = .opened) (others : ∀ y ∈ older, y.status ≠ .opened) :
    openRing (withNewest older x s) = some x.plan.ring := by
  have none : older.find? (fun r => r.status == .opened) = none := List.find?_eq_none.mpr fun y hy => by simp [others y hy]
  unfold openRing withNewest
  rw [List.find?_append, none]
  simp [opened]

end

/-! ## The record closed (R76 steps 1 to 3, R129) -/

/-- The record of a ring closed. -/
def closedRecord (r : RingRecord) (s : State) : RingRecord :=
  { r with
    status := if r.groutFinal = true ∧ r.muckFinal = true then .complete else .closed
    buildFinal := true
    build := { sectors := s.abu.sectors, suspensions := s.abu.suspensions }
    face := { r.face with bias := some s.fbu.bias } }

/-- The event of a record that its closure completes. -/
def completeEvent (r : RingRecord) : Option EventBody :=
  if r.groutFinal = true ∧ r.muckFinal = true then some (.ringComplete r.plan.ring) else none

/-- The OPEN record closed: the record, and its events. -/
theorem closureRecorded_eq {older : List RingRecord} {r : RingRecord} (s : State)
    (opened : r.status = .opened) (unbuilt : r.buildFinal = false) (others : ∀ y ∈ older, y.status ≠ .opened)
    (numbers : ∀ y ∈ older, y.plan.ring ≠ r.plan.ring) :
    closureRecorded (withNewest older r s) =
      queueIf (completeEvent r) (queueEvent (.ringClosed r.plan.ring) (withNewest older (closedRecord r s) s)) := by
  unfold closureRecorded
  rw [openRing_newest s opened others]
  simp only
  unfold closeRecord
  simp only
  rw [onOpenRecord_newest s _ opened unbuilt others, onRecord_newest s _ (by rfl) numbers,
    onRecord_newest_told s _ _ (by rfl) (by rfl) numbers]
  unfold makeFinal
  rw [queueEvent_rru, find_newest s (by rfl) numbers]
  simp only
  rw [if_neg (by simp [flagSet, unbuilt])]
  by_cases parts : r.groutFinal = true ∧ r.muckFinal = true
  · rw [if_pos (by simp [completes, withFlag, parts]), onRecord_newest_told s _ _ (by rfl) (by rfl) numbers, completeEvent,
      if_pos parts, closedRecord, if_pos parts]
    rfl
  · rw [if_neg (by simpa [completes, withFlag] using parts), onRecord_newest_told s _ _ (by rfl) (by rfl) numbers,
      completeEvent, if_neg parts, closedRecord, if_neg parts]
    rfl

/-! ## What a closure leaves (R76) -/

/-- What a closure leaves: all but the phase, the expected sector, two entries of the rate cap table with the rate that
follows from it, the records and plans, the screw command, the lines' strokes, and what waits to be sent. -/
structure ClosureKept (s u : State) : Prop where
  abu : u.abu =
    { s.abu with
      phase := u.abu.phase, expected := u.abu.expected
      caps := { s.abu.caps with plan := u.abu.caps.plan, muck := u.abu.caps.muck }
      effective := u.abu.effective, held := u.abu.held, rateSent := u.abu.rateSent }
  fbu : u.fbu = { s.fbu with screwSent := u.fbu.screwSent }
  chm : u.chm = s.chm
  gru : u.gru = { s.gru with lines := u.gru.lines }
  lines : ∀ l : Fin 6, (lineOf u l).state = (lineOf s l).state
  mbu : u.mbu = s.mbu
  outside : OutsideKept s u
  clp : u.clp = { s.clp with events := u.clp.events, lost := u.clp.lost }

namespace ClosureKept

/-- One operation after the other. -/
theorem trans {s t u : State} (first : ClosureKept s t) (second : ClosureKept t u) : ClosureKept s u where
  abu := by rw [second.abu, first.abu]
  fbu := by rw [second.fbu, first.fbu]
  chm := second.chm.trans first.chm
  gru := by rw [second.gru, first.gru]
  lines l := (second.lines l).trans (first.lines l)
  mbu := second.mbu.trans first.mbu
  outside := outsideKept_trans first.outside second.outside
  clp := by rw [second.clp, first.clp]

/-- The groups stay. -/
theorem groups {s u : State} (h : ClosureKept s u) : u.abu.groups = s.abu.groups := by rw [h.abu]

/-- The sectors stay. -/
theorem sectors {s u : State} (h : ClosureKept s u) : u.abu.sectors = s.abu.sectors := by rw [h.abu]

/-- The build order stays. -/
theorem buildOrder {s u : State} (h : ClosureKept s u) : u.abu.buildOrder = s.abu.buildOrder := by rw [h.abu]

/-- The count of suspensions stays. -/
theorem suspensions {s u : State} (h : ClosureKept s u) : u.abu.suspensions = s.abu.suspensions := by rw [h.abu]

/-- Two entries of the rate cap table apart, the table stays. -/
theorem caps {s u : State} (h : ClosureKept s u) :
    u.abu.caps = { s.abu.caps with plan := u.abu.caps.plan, muck := u.abu.caps.muck } := by rw [h.abu]

/-- The records and plans are beside it. -/
theorem onRru (s : State) (x : Rru) : ClosureKept s { s with rru := x } :=
  ⟨rfl, rfl, rfl, rfl, fun _ => rfl, rfl, ⟨rfl, rfl, rfl, rfl⟩, rfl⟩

/-- An event placed. -/
theorem queueEvent (b : EventBody) (s : State) : ClosureKept s (queueEvent b s) := by
  refine ⟨rfl, rfl, rfl, rfl, fun _ => rfl, rfl, ⟨rfl, rfl, rfl, rfl⟩, ?_⟩
  rw [queueEvent_eq]
  unfold withEvent
  split <;> rfl

/-- The expected sector made absent. -/
theorem clearExpected (s : State) : ClosureKept s (clearExpected s) := by
  unfold Machine.clearExpected
  split
  · exact onRru s s.rru
  · exact ⟨rfl, rfl, rfl, rfl, fun _ => rfl, rfl, ⟨rfl, rfl, rfl, rfl⟩, rfl⟩

/-- A recomputation of the rate. -/
theorem recomputeRate (s : State) : ClosureKept s (recomputeRate s) := by
  rw [recomputeRate_eq]
  exact ⟨rfl, rfl, rfl, rfl, fun _ => rfl, rfl, ⟨rfl, rfl, rfl, queueAfter_frame _ _ _⟩, rfl⟩

/-- The MUCK entry. -/
theorem postMuck (s : State) : ClosureKept s (postMuck s) := by
  unfold Machine.postMuck postMuckCap postCaps
  split
  · exact onRru s s.rru
  · refine trans ?_ (recomputeRate _)
    exact ⟨rfl, rfl, rfl, rfl, fun _ => rfl, rfl, ⟨rfl, rfl, rfl, rfl⟩, rfl⟩

/-- The PLAN entry. -/
theorem postPlan (rate : Nat) (s : State) : ClosureKept s (postPlan rate s) := by
  unfold Machine.postPlan
  split
  · exact onRru s s.rru
  · refine (trans ?_ (recomputeRate _)).trans (postMuck _)
    exact ⟨rfl, rfl, rfl, rfl, fun _ => rfl, rfl, ⟨rfl, rfl, rfl, rfl⟩, rfl⟩

/-- What follows a change of phase. -/
theorem followPhase (s : State) : ClosureKept s (followPhase s) := by
  have lines (l : Fin 6) := followPhase_state l s
  have followed := followPhase_frame s
  generalize Machine.followPhase s = u at *
  refine ⟨?_, ?_, ?_, ?_, lines, ?_, ⟨?_, ?_, ?_, ?_⟩, ?_⟩
  all_goals rw [followed]

/-- A change of phase. -/
theorem changePhase (p : Phase) (s : State) : ClosureKept s (changePhase p s) := by
  unfold Machine.changePhase
  split
  · exact onRru s s.rru
  · have phased : ClosureKept s (setPhase p s) := by
      refine trans ?_ (recomputeRate _)
      exact ⟨rfl, rfl, rfl, rfl, fun _ => rfl, rfl, ⟨rfl, rfl, rfl, rfl⟩, rfl⟩
    exact phased.trans (followPhase _)

/-- A part of a record made final. -/
theorem makeFinal (n : Nat) (f : FinalFlag) (cut : Bool) (s : State) : ClosureKept s (makeFinal n f cut s) := by
  unfold Machine.makeFinal
  split
  · exact onRru s s.rru
  · split
    · exact onRru s s.rru
    · split
      · exact (onRru s _).trans (queueEvent _ _)
      · exact onRru s _

/-- The OPEN record closed. -/
theorem closureRecorded (s : State) : ClosureKept s (closureRecorded s) := by
  unfold Machine.closureRecorded
  split
  · exact onRru s s.rru
  · exact (((onRru s _).trans (queueEvent _ _)).trans (onRru _ _)).trans (makeFinal _ _ _ _)

/-- The next plan. -/
theorem nextPlan (s : State) : ClosureKept s (nextPlan s) := by
  unfold Machine.nextPlan
  split
  · unfold activateHead
    split
    · exact onRru s s.rru
    · exact (onRru s _).trans (postPlan _ _)
  · exact onRru s s.rru
  · split <;> exact ((onRru s _).trans (queueEvent _ _)).trans (postPlan _ _)

/-- A closure. -/
theorem closeRing (s : State) : ClosureKept s (closeRing s) :=
  (((closureRecorded s).trans (clearExpected _)).trans (nextPlan _)).trans (changePhase _ _)

end ClosureKept

/-! ## The records and plans at a change of phase or of the PLAN entry (R3, R8) -/

/-- Outside BORING a recomputation of the rate counts no hold. -/
theorem recomputeRate_rru (s : State) (h : s.abu.phase ≠ .boring) : (recomputeRate s).rru = s.rru := by
  rw [recomputeRate_eq]
  simp only [h, false_and, if_false]

/-- Outside BORING a posting leaves the records and plans. -/
theorem postMuck_rru (s : State) (h : s.abu.phase ≠ .boring) : (postMuck s).rru = s.rru := by
  unfold postMuck postMuckCap postCaps
  split
  · rfl
  · exact recomputeRate_rru _ h

/-- Outside BORING the PLAN entry leaves the records and plans. -/
theorem postPlan_rru (rate : Nat) (s : State) (h : s.abu.phase ≠ .boring) : (postPlan rate s).rru = s.rru := by
  unfold postPlan
  split
  · rfl
  · have first := recomputeRate_rru (s.onAbu fun a => { a with caps := { a.caps with plan := rate } }) h
    have phase : (recomputeRate (s.onAbu fun a => { a with caps := { a.caps with plan := rate } })).abu.phase =
        s.abu.phase := (BuildKept.recomputeRate _).phase
    exact (postMuck_rru _ (by rw [phase]; exact h)).trans first

/-- A change to a phase other than BORING leaves the records and plans. -/
theorem changePhase_rru (p : Phase) (s : State) (h : p ≠ .boring) : (changePhase p s).rru = s.rru := by
  unfold changePhase
  split
  · rfl
  · have phased : (setPhase p s).rru = s.rru := recomputeRate_rru (s.onAbu fun a => { a with phase := p }) h
    rw [followPhase_frame]
    exact phased

/-- The PLAN entry posted. -/
theorem postPlan_plan (rate : Nat) (s : State) : (postPlan rate s).abu.caps.plan = rate := by
  unfold postPlan
  split
  · rename_i same
    exact same.symm
  · have muck (t : State) : (postMuck t).abu.caps.plan = t.abu.caps.plan := by
      unfold postMuck postMuckCap postCaps
      split
      · rfl
      · rw [recomputeRate_eq]
        rfl
    rw [muck, recomputeRate_eq]
    rfl

/-- A change of phase posts nothing. -/
theorem changePhase_caps (p : Phase) (s : State) : (changePhase p s).abu.caps = s.abu.caps := by
  unfold changePhase
  split
  · rfl
  · rw [followPhase_frame]
    unfold setPhase
    rw [recomputeRate_eq]
    rfl

/-! ## The next plan (R124) -/

/-- The plans after a closure of the ring of plan `p`. -/
def plannedRru (p : ActivePlan) (s : State) : Rru :=
  { s.rru with
    queue := s.rru.queue.tail
    active := planAfter p s
    exhausted := if s.rru.queue ≠ [] then false else if p.plan.ring < 65535 then s.rru.exhausted else true }

/-- The event of a plan repeated or of none left. -/
def planEvent (p : ActivePlan) (s : State) : Option EventBody :=
  if s.rru.queue = [] then some (if p.plan.ring < 65535 then .planRepeated (p.plan.ring + 1) else .planExhausted) else none

/-- The next plan: the plans, the event, and the PLAN entry. -/
theorem nextPlan_eq (p : ActivePlan) (s : State) (active : s.rru.active = some p) :
    nextPlan s = postPlan (planRate (planAfter p s)) (queueIf (planEvent p s) { s with rru := plannedRru p s }) := by
  unfold nextPlan activateHead planEvent plannedRru planAfter State.onRru
  rw [active]
  cases queue : s.rru.queue with
  | cons q qs => rfl
  | nil =>
    by_cases more : p.plan.ring < 65535
    · simp only [queue, if_pos more, if_true, List.tail_nil, ne_eq, not_true_eq_false, if_false]
      rfl
    · simp only [queue, if_neg more, if_true, List.tail_nil, ne_eq, not_true_eq_false, if_false]
      rfl

/-! ## The events at a closure (R76, R124, R149) -/

/-- A recent event through one more event, if there is one. -/
theorem RecentEvent.after_queueIf {k : Nat} {b : EventBody} {s : State} (h : RecentEvent k b s) (hk : k < 31)
    (e : Option EventBody) : RecentEvent (k + 1) b (queueIf e s) := by
  cases e with
  | none => exact h.mono (by omega)
  | some a => exact h.after_queueEvent hk a

/-- A recent event through a recomputation of the rate. -/
theorem RecentEvent.after_recomputeRate {k : Nat} {b : EventBody} {s : State} (h : RecentEvent k b s) :
    RecentEvent k b (recomputeRate s) := by
  refine h.of_clp ?_ ?_ <;> rw [recomputeRate_eq]

/-- A recent event through the PLAN entry. -/
theorem RecentEvent.after_postPlan {k : Nat} {b : EventBody} {s : State} (h : RecentEvent k b s) (rate : Nat) :
    RecentEvent k b (postPlan rate s) := by
  unfold postPlan
  split
  · exact h
  · have planned : RecentEvent k b (s.onAbu fun a => { a with caps := { a.caps with plan := rate } }) := h
    exact planned.after_recomputeRate.after_postCaps _

/-- A recent event through a change of phase. -/
theorem RecentEvent.after_changePhase {k : Nat} {b : EventBody} {s : State} (h : RecentEvent k b s) (p : Phase) :
    RecentEvent k b (changePhase p s) := by
  unfold changePhase
  split
  · exact h
  · have phased : RecentEvent k b (s.onAbu fun a => { a with phase := p }) := h
    have set : RecentEvent k b (setPhase p s) := phased.after_recomputeRate
    refine set.of_clp ?_ ?_ <;> rw [followPhase_frame]

/-- A recent event through the expected sector made absent. -/
theorem RecentEvent.after_clearExpected {k : Nat} {b : EventBody} {s : State} (h : RecentEvent k b s) :
    RecentEvent k b (clearExpected s) := by
  unfold clearExpected
  split
  · exact h
  · exact h.of_clp rfl rfl

/-- A recent event through a change of the records and plans. -/
theorem RecentEvent.onRru {k : Nat} {b : EventBody} {s : State} (h : RecentEvent k b s) (x : Rru) :
    RecentEvent k b { s with rru := x } :=
  h.of_clp rfl rfl

/-- A recent event through a part of a record made final. -/
theorem RecentEvent.after_makeFinal {k : Nat} {b : EventBody} {s : State} (h : RecentEvent k b s) (hk : k < 31) (n : Nat)
    (f : FinalFlag) (cut : Bool) : RecentEvent (k + 1) b (makeFinal n f cut s) := by
  unfold makeFinal
  split
  · exact h.mono (by omega)
  · split
    · exact h.mono (by omega)
    · split
      · exact (h.onRru _).after_queueEvent hk _
      · exact (h.onRru _).mono (by omega)

/-- A recent event through the OPEN record closed. -/
theorem RecentEvent.after_closureRecorded {k : Nat} {b : EventBody} {s : State} (h : RecentEvent k b s) (hk : k < 30) :
    RecentEvent (k + 2) b (closureRecorded s) := by
  unfold closureRecorded
  split
  · exact h.mono (by omega)
  · exact (((h.onRru _).after_queueEvent (by omega) _).onRru _).after_makeFinal (by omega) _ _ _

/-- A recent event through the next plan. -/
theorem RecentEvent.after_nextPlan {k : Nat} {b : EventBody} {s : State} (h : RecentEvent k b s) (hk : k < 31) :
    RecentEvent (k + 1) b (nextPlan s) := by
  unfold nextPlan
  split
  · unfold activateHead
    split
    · exact h.mono (by omega)
    · exact ((h.onRru _).after_postPlan _).mono (by omega)
  · exact h.mono (by omega)
  · split <;> exact ((h.onRru _).after_queueEvent hk _).after_postPlan _

/-- An event recent once the record is closed still waits after the closure. -/
theorem RecentEvent.closeRing_waits {k : Nat} {b : EventBody} {s : State} (h : RecentEvent k b (closureRecorded s))
    (hk : k < 31) : EventWaits b (closeRing s) :=
  ((h.after_clearExpected.after_nextPlan hk).after_changePhase _).waits

/-- An event recent before a closure still waits after it. -/
theorem RecentEvent.waits_closeRing {k : Nat} {b : EventBody} {s : State} (h : RecentEvent k b s) (hk : k < 29) :
    EventWaits b (closeRing s) :=
  (h.after_closureRecorded (by omega)).closeRing_waits (by omega)

/-! ## The closure whole (R76) -/

/-- The expected sector made absent is absent, and the records and plans stay. -/
theorem clearExpected_none (s : State) : (clearExpected s).abu.expected = none ∧ (clearExpected s).rru = s.rru := by
  unfold clearExpected
  split
  · rename_i absent
    exact ⟨by simpa using absent, rfl⟩
  · exact ⟨rfl, rfl⟩

section
variable {p : ActivePlan} {r : RingRecord} {s : State}

/-- A closure up to its change of phase: the expected sector, the PLAN entry, and the records and plans. -/
theorem closurePlanned_effect (hp : s.abu.phase ≠ .boring) (active : s.rru.active = some p)
    (recorded : closureRecorded s =
      queueIf (completeEvent r) (queueEvent (.ringClosed r.plan.ring)
        (withNewest s.rru.records.dropLast (closedRecord r s) s))) :
    (closurePlanned s).abu.expected = none ∧ (closurePlanned s).abu.caps.plan = planRate (planAfter p s) ∧
      (closurePlanned s).rru = { plannedRru p s with records := s.rru.records.dropLast ++ [closedRecord r s] } := by
  have rru : (closureRecorded s).rru = { s.rru with records := s.rru.records.dropLast ++ [closedRecord r s] } := by
    rw [recorded]
    cases completeEvent r <;> rfl
  have phase : (clearExpected (closureRecorded s)).abu.phase = s.abu.phase :=
    (BuildKept.clearExpected _).phase.trans (BuildKept.closureRecorded s).phase
  obtain ⟨absent, same⟩ := clearExpected_none (closureRecorded s)
  rw [rru] at same
  have planned := nextPlan_eq p (clearExpected (closureRecorded s)) (by rw [same]; exact active)
  unfold closurePlanned
  generalize clearExpected (closureRecorded s) = t at *
  have next : planAfter p t = planAfter p s := by rw [planAfter, same, planAfter]
  have plans : plannedRru p t = { plannedRru p s with records := s.rru.records.dropLast ++ [closedRecord r s] } := by
    rw [plannedRru, next, same, plannedRru]
  rw [next, plans] at planned
  rw [planned]
  generalize hx : ({ plannedRru p s with records := s.rru.records.dropLast ++ [closedRecord r s] } : Rru) = x
  have told (e : Option EventBody) : (queueIf e { t with rru := x }).abu = t.abu ∧
      (queueIf e { t with rru := x }).rru = x := by cases e <;> exact ⟨rfl, rfl⟩
  obtain ⟨abu, rru'⟩ := told (planEvent p t)
  have posted := BuildKept.postPlan (planRate (planAfter p s)) (queueIf (planEvent p t) { t with rru := x })
  refine ⟨?_, postPlan_plan _ _, ?_⟩
  · rw [posted.expected, abu, absent]
  · rw [postPlan_rru _ _ (by rw [abu, phase]; exact hp), rru']

/-- The event of a plan repeated or of none left waits after the closure. -/
theorem closeRing_planEvent (active : (clearExpected (closureRecorded s)).rru.active = some p) {b : EventBody}
    (h : planEvent p (clearExpected (closureRecorded s)) = some b) : EventWaits b (closeRing s) := by
  rw [closeRing_eq]
  refine (RecentEvent.after_changePhase (k := 0) ?_ _).waits
  rw [closurePlanned, nextPlan_eq p _ active, h]
  exact (recentEvent_queueEvent b _).after_postPlan _

/-- The laws of the ring table put the OPEN record last, and alone of its number. -/
theorem newestOpened (last : s.rru.records.getLast? = some r) (opened : r.status = .opened) (numbering : NumberingLaw s)
    (openLaw : OpenLaw s) (complete : CompleteLaw s) : NewestOpened r s.rru.records := by
  have newest : s.rru.records = s.rru.records.dropLast ++ [r] := (List.dropLast_append_getLast? r last).symm
  obtain ⟨-, -, unbuilt⟩ := complete r (List.mem_of_getLast? last)
  obtain ⟨others, -⟩ := openLaw
  exact ⟨newest, opened, unbuilt opened, others, ring_ne_of_older numbering newest⟩

/-- A ring that closes is closed as its rules say. -/
theorem ringClosed_closeRing (hp : s.abu.phase ≠ .boring) (active : s.rru.active = some p)
    (table : NewestOpened r s.rru.records) : RingClosed p r s.abu.sectors s (closeRing s) := by
  obtain ⟨newest, opened, unbuilt, others, numbers⟩ := table
  have recorded := closureRecorded_eq s opened unbuilt others numbers
  rw [withNewest_self newest] at recorded
  obtain ⟨absent, plan, plans⟩ := closurePlanned_effect hp active recorded
  have next : (closurePlanned s).rru.active = planAfter p s := by rw [plans]; rfl
  have outside : (if (planAfter p s).isSome then Phase.ready else .idle) ≠ .boring := by split <;> simp
  have queue : (clearExpected (closureRecorded s)).rru.queue = s.rru.queue := by
    rw [(clearExpected_none _).2, recorded]
    cases completeEvent r <;> rfl
  have stillActive : (clearExpected (closureRecorded s)).rru.active = some p := by
    rw [(clearExpected_none _).2, recorded, ← active]
    cases completeEvent r <;> rfl
  have closing := closeRing_eq s
  rw [next] at closing
  have changed := BuildKept.changePhase (if (planAfter p s).isSome then .ready else .idle) (closurePlanned s)
  have whole := ClosureKept.closeRing s
  have caps := changePhase_caps (if (planAfter p s).isSome then .ready else .idle) (closurePlanned s)
  have rru := (changePhase_rru _ (closurePlanned s) outside).trans plans
  rw [← closing] at changed caps rru
  have entries := whole.caps
  rw [caps, plan, ← caps] at entries
  refine ⟨changed.phase, changed.expected.trans absent, whole.sectors, whole.buildOrder, whole.suspensions, entries, rru, ?_,
    fun grout muck => ?_, fun empty => ?_, whole.chm, whole.mbu, whole.fbu, whole.gru, whole.lines⟩
  · refine RecentEvent.closeRing_waits (k := 1) ?_ (by omega)
    rw [recorded]
    exact (recentEvent_queueEvent _ _).after_queueIf (by omega) _
  · refine RecentEvent.closeRing_waits (k := 0) ?_ (by omega)
    rw [recorded, completeEvent, if_pos ⟨grout, muck⟩]
    exact recentEvent_queueEvent _ _
  · refine closeRing_planEvent stillActive ?_
    rw [planEvent, queue, if_pos empty]

end

end Sys2Proof.Machine
end


section
/-! PROOF. ACCEPT of the last sector (R68, R76). -/

namespace Sys2Proof.Machine

section
variable (k : Fin 7) (s : State)

/-- A sector taken is beside the records and plans, the settings and the blocks but the ABU. -/
theorem sectorAccepted_frame :
    sectorAccepted k s =
      { s with
        abu :=
          { s.abu with
            sectors := s.abu.sectors.set k { sectorOf s k with state := .accepted }
            groups := s.abu.groups.set k { groupOf s k with lock := true }
            expected := (sectorAccepted k s).abu.expected }
        mlp := { s.mlp with queue := (sectorAccepted k s).mlp.queue } } := by
  have taken := sectorAccepted_eq k s
  have expected : (sectorAccepted k s).abu.expected = expectedSector (sectorAccepted k s) := congrArg (·.abu.expected) taken
  have port : (sectorAccepted k s).mlp = { s.mlp with queue := (sectorAccepted k s).mlp.queue } := by
    have placed := congrArg State.mlp taken
    rw [queueAfter_frame] at placed
    rw [placed]
  rw [expected, ← port, congrArg State.mlp taken]
  exact taken

end

/-- Settles O25: the sector taken passes the closure check, and the closure is that of the ring. -/
theorem acceptOfTheLastSectorClosesTheRing : Obligations.AcceptOfTheLastSectorClosesTheRing := by
  unfold Obligations.AcceptOfTheLastSectorClosesTheRing
  intro tag k p r s h hp offset active key standing _ _ last opened _ _ _ _ numbering openLaw complete
  have frame := sectorAccepted_frame k (handedState { kind := 0x13, tag := tag, payload := [BitVec.ofNat 8 k.val] } s)
  have passes := (closurePasses_sectorAccepted k
    (handedState { kind := 0x13, tag := tag, payload := [BitVec.ofNat 8 k.val] } s)).mpr ⟨p, active, .inl key, standing⟩
  have group (g : Fin 7) := groupOf_sectorAccepted k g
    (handedState { kind := 0x13, tag := tag, payload := [BitVec.ofNat 8 k.val] } s)
  have served := exec_accept_taken tag k s h hp offset (standing k)
  rw [acceptSector_eq] at served
  generalize sectorAccepted k (handedState { kind := 0x13, tag := tag, payload := [BitVec.ofNat 8 k.val] } s) = t at *
  have phase : t.abu.phase = .building := by
    rw [frame]
    exact hp
  have rru : t.rru = s.rru := by
    rw [frame]
    rfl
  rw [checkClosure, if_pos ⟨phase, passes⟩] at served
  have kept := ClosureKept.closeRing t
  have closed := ringClosed_closeRing (p := p) (r := r) (s := t) (by simp [phase]) (by rw [rru]; exact active)
    (by rw [rru]; exact newestOpened last opened numbering openLaw complete)
  generalize closeRing t = u at *
  refine ⟨_, served, ?_, fun g => ?_, ?_, ?_⟩
  · rw [frame] at closed
    exact closed
  · have groups : groupOf u g = groupOf t g := congrArg (·[g]) kept.groups
    refine groups.trans ((group g).trans ?_)
    split
    · rename_i same
      rw [same]
      rfl
    · rfl
  · have outside : OutsideKept s t := by
      refine ⟨?_, ?_, ?_, ?_⟩ <;>
        · rw [frame]
          rfl
    exact outsideKept_trans outside kept.outside
  · have clp := kept.clp
    rw [congrArg State.clp frame] at clp
    unfold Answered placeReply State.onClp
    simp only
    rw [clp]
    rfl

end Sys2Proof.Machine
end


section
/-! SUPPORT. The measurement of a FACE sample: the cells' records and the working pressure (R25 to R29). -/

namespace Sys2Proof.Machine

/-! ## Sorting and the lower median (00_scope.md 4.4) -/

section
variable {α : Type} (key : α → Nat)

/-- An insertion adds one entry. -/
theorem insertByKey_perm (x : α) (l : List α) : (insertByKey key x l).Perm (x :: l) := by
  induction l with
  | nil => exact .refl _
  | cons y ys ih =>
    unfold insertByKey
    split
    · exact .refl _
    · exact (ih.cons y).trans (.swap x y ys)

/-- An insertion keeps a list ascending. -/
theorem insertByKey_ascends (x : α) (l : List α) (h : l.Pairwise fun a b => key a ≤ key b) :
    (insertByKey key x l).Pairwise fun a b => key a ≤ key b := by
  induction l with
  | nil => exact List.pairwise_singleton _ _
  | cons y ys ih =>
    obtain ⟨least, rest⟩ := List.pairwise_cons.mp h
    unfold insertByKey
    split
    · rename_i below
      refine .cons (fun z hz => ?_) h
      rcases List.mem_cons.mp hz with rfl | later
      · omega
      · have := least z later
        omega
    · rename_i above
      refine .cons (fun z hz => ?_) (ih rest)
      rcases List.mem_cons.mp ((insertByKey_perm key x ys).mem_iff.mp hz) with rfl | later
      · omega
      · exact least z later

/-- Sorting keeps the entries. -/
theorem sortByKey_perm (l : List α) : (sortByKey key l).Perm l := by
  induction l with
  | nil => exact .refl _
  | cons x xs ih => exact (insertByKey_perm key x _).trans (ih.cons x)

/-- A sorted list ascends. -/
theorem sortByKey_ascends (l : List α) : (sortByKey key l).Pairwise fun a b => key a ≤ key b := by
  induction l with
  | nil => exact .nil
  | cons x xs ih => exact insertByKey_ascends key x _ ih

end

/-- In an ascending list at most `i` entries lie below entry `i`, and more than `i` do not lie above it. -/
theorem countP_below_getElem (l : List Nat) (h : l.Pairwise (· ≤ ·)) (i : Nat) (hi : i < l.length) :
    l.countP (fun x => decide (x < l[i])) ≤ i ∧ i < l.countP fun x => decide (x < l[i] + 1) := by
  have split : l.take i ++ l.drop i = l := List.take_append_drop i l
  have head : l.drop i = l[i] :: l.drop (i + 1) := List.drop_eq_getElem_cons hi
  have parts := h
  rw [← split] at parts
  obtain ⟨-, upper, across⟩ := List.pairwise_append.mp parts
  rw [head] at upper across
  obtain ⟨above, -⟩ := List.pairwise_cons.mp upper
  have none : (l.drop i).countP (fun x => decide (x < l[i])) = 0 := by
    rw [head]
    refine List.countP_eq_zero.mpr fun x hx => ?_
    rcases List.mem_cons.mp hx with rfl | later
    · simp
    · simpa using above x later
  have all : (l.take i).countP (fun x => decide (x < l[i] + 1)) = i := by
    rw [List.countP_eq_length.mpr fun x hx => ?_, List.length_take]
    · omega
    · have := across x hx l[i] List.mem_cons_self
      simpa using by omega
  constructor
  · calc l.countP (fun x => decide (x < l[i]))
        = (l.take i).countP (fun x => decide (x < l[i])) + (l.drop i).countP (fun x => decide (x < l[i])) := by
          rw [← List.countP_append, split]
      _ ≤ i := by
          rw [none]
          have := List.countP_le_length (p := fun x => decide (x < l[i])) (l := l.take i)
          rw [List.length_take] at this
          omega
  · calc i < (l.take i).countP (fun x => decide (x < l[i] + 1)) + (l.drop i).countP (fun x => decide (x < l[i] + 1)) := by
          rw [all, head, List.countP_cons_of_pos (by simp)]
          omega
      _ = l.countP (fun x => decide (x < l[i] + 1)) := by rw [← List.countP_append, split]

/-! ## A cell's record (R25 to R27) -/

/-- The correction by a cell's height, rounded. -/
theorem roundDiv_axis (s : State) (i : Fin 5) :
    roundDiv ((s.cfb.face.gamma : Int) * s.cfb.geometry.cellHeight[i]) 1000 = axisCorrection s i := by
  unfold roundDiv axisCorrection
  by_cases up : 0 ≤ s.cfb.geometry.cellHeight[i]
  · have product : 0 ≤ (s.cfb.face.gamma : Int) * s.cfb.geometry.cellHeight[i] := Int.mul_nonneg (by omega) up
    rw [if_pos up, if_pos product]
    generalize (s.cfb.face.gamma : Int) * s.cfb.geometry.cellHeight[i] = x at *
    simp only [Int.ofNat_eq_natCast]
    omega
  · have product : (s.cfb.face.gamma : Int) * s.cfb.geometry.cellHeight[i] ≤ 0 :=
      Int.mul_nonpos_of_nonneg_of_nonpos (by omega) (by omega)
    rw [if_neg up]
    generalize (s.cfb.face.gamma : Int) * s.cfb.geometry.cellHeight[i] = x at *
    simp only [Int.ofNat_eq_natCast]
    split <;> omega

/-- An integer clamped to a range. -/
theorem clampInt_eq (lo hi x : Int) (h : lo ≤ hi) : clampInt lo hi x = max lo (min hi x) := by
  unfold clampInt
  split_ifs <;> omega

/-- The validity of a cell of a FACE sample. -/
theorem cellValid_eq (s : State) (p : List Byte) (i : Fin 5) :
    cellValid s.cfb.geometry i (natAt p (3 * i.val) 2) (flagAt p (3 * i.val + 2)) = decide (CellReads s p i) := by
  have bit := Nat.mod_two_eq_zero_or_one (s.cfb.geometry.cellMask / 2 ^ i.val)
  unfold cellValid cellMasked
  rw [Bool.eq_iff_iff, decide_eq_true_iff]
  rcases bit with clear | set
  · simp [clear, and_assoc]
  · simp [set]

/-- The record of a cell of a FACE sample. -/
theorem cellRecords_getElem (s : State) (p : List Byte) (i : Fin 5) :
    (cellRecords s.cfb (readFaceSample p))[i] =
      { raw := some (natAt p (3 * i.val) 2), fault := flagAt p (3 * i.val + 2), valid := decide (CellReads s p i)
        corrected := if CellReads s p i then some (axisPressure s p i) else none } := by
  have record : (cellRecords s.cfb (readFaceSample p))[i] =
      cellRecord s.cfb i (natAt p (3 * i.val) 2) (flagAt p (3 * i.val + 2)) := by
    simp [cellRecords, mapTable, readFaceSample]
  have pressure : cellCorrected s.cfb.face.gamma s.cfb.geometry.cellHeight[i] (natAt p (3 * i.val) 2) =
      axisPressure s p i := by
    rw [cellCorrected, roundDiv_axis, clampInt_eq _ _ _ (by omega), axisPressure]
  rw [record, cellRecord, cellValid_eq, pressure]
  by_cases reads : CellReads s p i <;> simp [reads]

/-! ## The working pressure (R28) -/

section
variable (s : State) (p : List Byte)

/-- The corrected values of a FACE sample. -/
def correctedValues : List Nat := allCells.filterMap fun i => if CellReads s p i then some (axisPressure s p i) else none

/-- The cells' records give these values, sorted. -/
theorem sortedCorrected_eq :
    sortedCorrected (cellRecords s.cfb (readFaceSample p)) = sortByKey (fun n => n) (correctedValues s p) := by
  refine congrArg (sortByKey fun n => n) (List.filterMap_congr fun i _ => ?_)
  rw [cellRecords_getElem]

/-- A count of values is a count of valid cells. -/
theorem countP_correctedValues (q : Nat → Bool) :
    (correctedValues s p).countP q =
      (allCells.filter fun i => decide (CellReads s p i ∧ q (axisPressure s p i) = true)).length := by
  unfold correctedValues
  rw [List.countP_filterMap, List.countP_eq_length_filter]
  refine congrArg List.length (List.filter_congr fun i _ => ?_)
  by_cases reads : CellReads s p i
  · rw [if_pos reads, Option.map_some, Option.getD_some]
    rw [Bool.eq_iff_iff, decide_eq_true_iff]
    exact (and_iff_right reads).symm
  · rw [if_neg reads]
    simp [reads]

/-- There are as many values as valid cells. -/
theorem length_correctedValues : (correctedValues s p).length = cellsRead s p := by
  have count := countP_correctedValues s p fun _ => true
  simp only [List.countP_true, and_true] at count
  exact count

/-- The lower median of the corrected values. -/
theorem lowerMedian_corrected (enough : 2 ≤ cellsRead s p) :
    ∃ m ∈ lowerMedian (sortByKey (fun n => n) (correctedValues s p)),
      cellsBelow s p m ≤ (cellsRead s p - 1) / 2 ∧ (cellsRead s p - 1) / 2 < cellsBelow s p (m + 1) := by
  have perm := sortByKey_perm (fun n => n) (correctedValues s p)
  have ascends := sortByKey_ascends (fun n => n) (correctedValues s p)
  have length := perm.length_eq.trans (length_correctedValues s p)
  have below (m : Nat) : (sortByKey (fun n => n) (correctedValues s p)).countP (fun x => decide (x < m)) =
      cellsBelow s p m := by
    rw [perm.countP_eq, countP_correctedValues]
    simp only [decide_eq_true_iff]
    rfl
  unfold lowerMedian
  generalize sortByKey (fun n => n) (correctedValues s p) = l at *
  have inside : (cellsRead s p - 1) / 2 < l.length := by omega
  have counted := countP_below_getElem l ascends _ inside
  rw [below, below] at counted
  exact ⟨_, by rw [length]; exact List.getElem?_eq_getElem inside, counted⟩

end

/-! ## The measurement whole (R25 to R29) -/

/-- The face timer after a measurement. -/
theorem invalidTimerAfter_eq (s : State) (valid : Bool) :
    invalidTimerAfter s valid =
      if valid = true then .stopped
      else if s.fbu.invalidTimer = .stopped then .running s.ms s.cfb.face.faceInvalidMs
      else s.fbu.invalidTimer := by
  unfold invalidTimerAfter
  cases valid with
  | true => rfl
  | false => cases s.fbu.invalidTimer <;> rfl

/-- Stages 1 to 3 of an evaluation. -/
theorem faceMeasured_measureFace (p : List Byte) (s : State) : FaceMeasured p s (measureFace (readFaceSample p) s) := by
  have length : (sortByKey (fun n => n) (correctedValues s p)).length = cellsRead s p :=
    (sortByKey_perm _ _).length_eq.trans (length_correctedValues s p)
  have measured : (measureFace (readFaceSample p) s).fbu =
      { s.fbu with
        cells := cellRecords s.cfb (readFaceSample p)
        count := cellsRead s p
        valid := decide (2 ≤ cellsRead s p)
        pw := if 2 ≤ cellsRead s p then lowerMedian (sortByKey (fun n => n) (correctedValues s p)) else s.fbu.pw
        invalidTimer := invalidTimerAfter s (decide (2 ≤ cellsRead s p)) } := by
    unfold measureFace State.onFbu
    simp only [sortedCorrected_eq, length, decide_eq_true_iff]
  unfold FaceMeasured
  rw [measured]
  refine ⟨cellRecords_getElem s p, rfl, rfl, fun few => if_neg (by omega), fun enough => ?_, ?_⟩
  · simp only [if_pos enough]
    exact lowerMedian_corrected s p enough
  · simp only [invalidTimerAfter_eq, decide_eq_true_iff]

end Sys2Proof.Machine
end


section
/-! SUPPORT. A face evaluation outside BORING, and the check of leaving BUILD_SUSPENDED (R30, R34, R65, R75). -/

namespace Sys2Proof.Machine

/-! ## The FACE entry outside BORING (R6, R34) -/

/-- Between two rate cap tables outside BORING only the effective rate differs. -/
theorem abuWithCaps_outsideBoring (c : Caps) (s : State) (law : RateLaw s) (hs : s.abu.phase ≠ .boring) :
    abuWithCaps c s.abu = { s.abu with caps := c, effective := leastCap c } := by
  obtain ⟨-, held, sent⟩ := law
  have noHeld (c : Caps) : heldIndicator s.abu.phase c = s.abu.held := by rw [held]; simp [heldIndicator, hs]
  have noRate (r : Nat) : rateCommand s.abu.phase r = s.abu.rateSent := by rw [sent]; simp [rateCommand, hs]
  rw [abuWithCaps, noHeld, noRate]

/-- Outside BORING a posting of the FACE entry changes that entry and the effective rate. -/
theorem postFace_outsideBoring (v : Cap) (s : State) (law : RateLaw s) (hs : s.abu.phase ≠ .boring) :
    postFace v s =
      { s with
        abu := { s.abu with caps := { s.abu.caps with face := v }, effective := leastCap { s.abu.caps with face := v } } } := by
  have whole := abuWithCaps_outsideBoring { s.abu.caps with face := v } s law hs
  unfold postFace postCaps
  split
  · have same : { s.abu.caps with face := v } = s.abu.caps := by assumption
    rw [same, abuWithCaps_self s law] at whole
    rw [same, ← whole]
  · have noRate : rateCommand s.abu.phase (leastCap { s.abu.caps with face := v }) = s.abu.rateSent :=
      congrArg Abu.rateSent whole
    rw [recomputeRate_eq]
    unfold State.onAbu
    simp only [hs, false_and, if_false, noRate, bne_self_eq_false, queueAfter, Bool.false_eq_true]
    rw [← whole]
    rfl

/-! ## The evaluation outside BORING (R25 to R36) -/

section
variable (s : State)

/-- Outside BORING no entry is counted in the record. -/
theorem countFaceEntry_outsideBoring (b : Option FaceClass) (c : FaceClass) (hs : s.abu.phase ≠ .boring) :
    countFaceEntry b c s = s := if_neg (by simp [hs])

/-- Outside BORING the trim stays. -/
theorem stepTrim_outsideBoring (hs : s.abu.phase ≠ .boring) : stepTrim s = s := if_neg (by simp [hs])

/-- Outside BORING no working pressure is handed to the record. -/
theorem postPw_outsideBoring (hs : s.abu.phase ≠ .boring) : postPw s = s := by
  unfold postPw
  split
  · rename_i boring _ _
    exact absurd boring hs
  · rfl

/-- Outside BORING a classification tells a class entered and posts the FACE entry. -/
theorem classifyFace_outsideBoring (hs : s.abu.phase ≠ .boring) :
    ∃ e v t c, classifyFace s = queueIf e (postFace v (s.onFbu fun f => { f with tEff := t, faceClass := c })) := by
  have posted (v : Cap) (t : State) : (postFace v t).abu.phase = t.abu.phase :=
    (BuildKept.postCaps (fun c => { c with face := v }) t).phase
  refine ⟨_, _, _, _, countFaceEntry_outsideBoring _ _ _ ?_⟩
  rw [(BuildKept.queueIf _ _).phase, posted]
  exact hs

/-- Outside BORING an evaluation classifies the measured face, and forms the screw command. -/
theorem evaluateFace_outsideBoring (x : FaceSample) (hs : s.abu.phase ≠ .boring) :
    evaluateFace x s = formScrew (classifyFace (measureFace x s)) := by
  have classified : (classifyFace (measureFace x s)).abu.phase ≠ .boring := by
    rw [(BuildKept.classifyFace _).phase]
    exact hs
  unfold evaluateFace
  rw [stepTrim_outsideBoring _ classified, postPw_outsideBoring]
  rw [(BuildKept.formScrew _).phase]
  exact classified

end

/-- What an evaluation outside BORING leaves: the ABU but its FACE entry and effective rate, the face as measured, and every
other block but the ports. -/
structure FaceEvaluated (m u : State) : Prop where
  abu : u.abu = { m.abu with caps := { m.abu.caps with face := u.abu.caps.face }, effective := u.abu.effective }
  fbu : u.fbu = { m.fbu with tEff := u.fbu.tEff, faceClass := u.fbu.faceClass, screwSent := u.fbu.screwSent }
  rest : u = { m with abu := u.abu, fbu := u.fbu, mlp := u.mlp, clp := u.clp }
  law : RateLaw u

/-- The evaluation outside BORING. -/
theorem faceEvaluated (x : FaceSample) (s : State) (law : RateLaw s) (hs : s.abu.phase ≠ .boring) :
    FaceEvaluated (measureFace x s) (evaluateFace x s) := by
  obtain ⟨e, v, t, c, classified⟩ := classifyFace_outsideBoring (measureFace x s) hs
  rw [evaluateFace_outsideBoring s x hs, classified, formScrew_frame]
  have posted := postFace_outsideBoring v ((measureFace x s).onFbu fun f => { f with tEff := t, faceClass := c }) law hs
  have kept : RateLaw (postFace v ((measureFace x s).onFbu fun f => { f with tEff := t, faceClass := c })) :=
    postCaps_law _ _ law
  generalize postFace v ((measureFace x s).onFbu fun f => { f with tEff := t, faceClass := c }) = w at *
  have told : queueIf e w = { w with clp := (queueIf e w).clp } := by cases e <;> rfl
  generalize queueIf e w = z at *
  generalize (formScrew z).fbu.screwSent = n
  generalize (formScrew z).mlp.queue = q
  refine ⟨?_, ?_, ?_, ?_⟩
  · rw [told, posted]
    rfl
  · rw [told, posted]
    rfl
  · rw [told, posted]
    rfl
  · rw [told]
    exact kept

end Sys2Proof.Machine
end


section
/-! PROOF. FACE samples while a build stands (R73 to R77). -/

namespace Sys2Proof.Machine

/-! ## The sample delivered and evaluated (R25, R30) -/

/-- A FACE sample heard well is evaluated, and the build judged. -/
theorem exec_faceSample_heard (address sequence : Byte) (p : List Byte) (s : State)
    (h : HeardWell s .face { kind := 0x01, address := address, sequence := sequence, payload := p }) :
    exec (.faceSample address sequence p) s =
      .next (settle (buildEvaluation (evaluateFace (readFaceSample p) (heardOnly s .face sequence)))) :=
  congrArg (fun t => Host.Outcome.next (settle t)) (machineFrame_heardWell _ _ _ h)

/-- The measurement is beside the target, the class and the screw command. -/
theorem faceMeasured_of_fbu {p : List Byte} {s t u : State}
    (fbu : u.fbu = { t.fbu with tEff := u.fbu.tEff, faceClass := u.fbu.faceClass, screwSent := u.fbu.screwSent })
    (h : FaceMeasured p s t) : FaceMeasured p s u := by
  unfold FaceMeasured
  rw [fbu]
  exact h

/-- What a FACE sample evaluated outside BORING leaves before the build is judged. -/
structure FaceTaken (p : List Byte) (s v : State) : Prop where
  measured : FaceMeasured p s v
  abu : v.abu = { s.abu with caps := { s.abu.caps with face := v.abu.caps.face }, effective := v.abu.effective }
  law : RateLaw v
  chm : v.chm = s.chm
  gru : v.gru = s.gru
  mbu : v.mbu = s.mbu
  rru : v.rru = s.rru
  cfb : v.cfb = s.cfb
  ms : v.ms = s.ms

/-- A FACE sample outside BORING. -/
theorem faceTaken (p : List Byte) (sequence : Byte) (s : State) (law : RateLaw s) (hs : s.abu.phase ≠ .boring) :
    FaceTaken p s (evaluateFace (readFaceSample p) (heardOnly s .face sequence)) := by
  have measured : FaceMeasured p s (measureFace (readFaceSample p) (heardOnly s .face sequence)) :=
    faceMeasured_measureFace p (heardOnly s .face sequence)
  obtain ⟨abu, fbu, rest, law⟩ := faceEvaluated (readFaceSample p) (heardOnly s .face sequence) law hs
  generalize evaluateFace (readFaceSample p) (heardOnly s .face sequence) = v at *
  refine ⟨faceMeasured_of_fbu fbu measured, abu, law, ?_, ?_, ?_, ?_, ?_, ?_⟩ <;>
    · rw [rest]
      rfl

section
variable {p : List Byte} {s v u : State}

/-- The force that the face asks for, read after the sample. -/
theorem FaceTaken.need (taken : FaceTaken p s v) (q : Nat) : holdingNeed q { s with fbu := u.fbu } = requiredForce v q := by
  rw [requiredForce_eq, holdingNeed, holdingNeed, taken.cfb]

/-- The force that the groups bear, read after the sample. -/
theorem FaceTaken.held (taken : FaceTaken p s v) : heldForce { s with fbu := u.fbu } = holdingForce v := by
  have group (g : Fin 7) : groupOf v g = groupOf s g := by rw [groupOf, taken.abu, groupOf]
  unfold heldForce holdingForce holdingCount
  simp only [taken.cfb, group, Bool.true_and]
  rfl

/-- The check of staying is that of the face as it stands after the sample. -/
theorem FaceTaken.stays_iff (taken : FaceTaken p s v) (fbu : u.fbu = { v.fbu with screwSent := u.fbu.screwSent }) :
    staysBuilding v = true ↔ BearsFace { s with fbu := u.fbu } := by
  have valid : u.fbu.valid = v.fbu.valid := by rw [fbu]
  have pressure : u.fbu.pw = v.fbu.pw := by rw [fbu]
  unfold BearsFace
  simp only [taken.need, taken.held, valid, pressure]
  exact staysBuilding_iff v

/-- When a suspended build resumes (R75). -/
theorem resumesBuilding_iff (s : State) :
    resumesBuilding s = true ↔
      s.fbu.valid = true ∧ ∃ p, s.fbu.pw = some p ∧ requiredForce s p * 1050 ≤ holdingForce s * 1000 := by
  unfold resumesBuilding
  cases hf : requiredNow s with
  | none =>
    refine iff_of_false (by simp) fun ⟨valid, p, hp, _⟩ => ?_
    rw [(requiredNow_eq_some s (requiredForce s p)).mpr ⟨valid, p, hp, rfl⟩] at hf
    exact absurd hf (by simp)
  | some f =>
    obtain ⟨valid, p, hp, rfl⟩ := (requiredNow_eq_some s f).mp hf
    simp [valid, hp]

/-- The check of leaving is that of the face as it stands after the sample. -/
theorem FaceTaken.resumes_iff (taken : FaceTaken p s v) (fbu : u.fbu = { v.fbu with screwSent := u.fbu.screwSent }) :
    resumesBuilding v = true ↔ BearsFaceWithMargin { s with fbu := u.fbu } := by
  have valid : u.fbu.valid = v.fbu.valid := by rw [fbu]
  have pressure : u.fbu.pw = v.fbu.pw := by rw [fbu]
  unfold BearsFaceWithMargin
  simp only [taken.need, taken.held, valid, pressure]
  exact resumesBuilding_iff v

/-- The measurement is beside the screw command. -/
theorem FaceTaken.measured_of_screw (taken : FaceTaken p s v) (fbu : u.fbu = { v.fbu with screwSent := u.fbu.screwSent }) :
    FaceMeasured p s u := by
  refine faceMeasured_of_fbu ?_ taken.measured
  rw [fbu]

/-! ## The build judged in BUILDING (R73) -/

/-- A FACE sample in BUILDING. -/
theorem FaceTaken.building (taken : FaceTaken p s v) (hp : s.abu.phase = .building) (hu : u = checkStay v) :
    FaceMeasured p s u ∧
      (BearsFace { s with fbu := u.fbu } → u.abu.phase = .building ∧ u.abu.groups = s.abu.groups ∧
        u.abu.suspensions = s.abu.suspensions ∧ u.gru = s.gru) ∧
      (¬BearsFace { s with fbu := u.fbu } →
        BuildSuspends { s with fbu := u.fbu, abu := { s.abu with caps := u.abu.caps, effective := u.abu.effective } } u) ∧
      u.abu.sectors = s.abu.sectors ∧ u.abu.expected = s.abu.expected ∧ u.rru = s.rru := by
  have phase : v.abu.phase = .building := by rw [taken.abu]; exact hp
  by_cases stays : staysBuilding v = true
  · rw [checkStay, if_neg (by simp [stays])] at hu
    subst hu
    refine ⟨taken.measured, fun _ => ⟨phase, ?_, ?_, taken.gru⟩, fun unborne => ?_, ?_, ?_, taken.rru⟩
    · rw [taken.abu]
    · rw [taken.abu]
    · exact absurd ((taken.stays_iff (u := u) rfl).mp stays) unborne
    · rw [taken.abu]
    · rw [taken.abu]
  · rw [checkStay, if_pos ⟨phase, by simpa using stays⟩] at hu
    obtain ⟨⟨abu, orders, told, chm, mbu, rru, fbu, gru, lines⟩, -, -, -⟩ := suspendBuild_effect v taken.law phase
    rw [← hu] at abu orders told chm mbu rru fbu gru lines
    have group (g : Fin 7) : groupOf v g = groupOf s g := by rw [groupOf, taken.abu, groupOf]
    have line (l : Fin 6) : lineOf v l = lineOf s l := by rw [lineOf, taken.gru, lineOf]
    refine ⟨taken.measured_of_screw fbu, fun bears => ?_, fun _ => ⟨?_, ?_, ?_, ?_, ?_, ?_, rfl, ?_, ?_⟩, ?_, ?_, ?_⟩
    · exact absurd ((taken.stays_iff fbu).mpr bears) stays
    · have caps : u.abu.caps = v.abu.caps := by rw [abu]
      have effective : u.abu.effective = v.abu.effective := by rw [abu]
      rw [caps, effective, abu, taken.ms]
      simp only [group]
      rw [taken.abu]
      rfl
    · simp only [group] at orders
      exact orders
    · have valid : u.fbu.valid = v.fbu.valid := by rw [fbu]
      rw [valid]
      exact told
    · exact chm.trans taken.chm
    · exact mbu.trans taken.mbu
    · exact rru.trans taken.rru
    · rw [gru, taken.gru]
    · exact fun l => (lines l).trans (congrArg Line.state (line l))
    · rw [abu, taken.abu]
    · rw [abu, taken.abu]
    · exact rru.trans taken.rru

/-! ## The build judged in BUILD_SUSPENDED (R75, R76) -/

/-- A suspended build resumed, before the closure check. -/
def buildResumed (v : State) : State := queueEvent (.buildResumed (v.fbu.pw.getD 0)) (changePhase .building v)

/-- A resumption leaves what a closure leaves. -/
theorem closureKept_buildResumed (v : State) : ClosureKept v (buildResumed v) :=
  (ClosureKept.changePhase _ _).trans (.queueEvent _ _)

/-- A resumption enters BUILDING with the sector expected, the rate cap table and the records as they were. -/
theorem buildResumed_abu (v : State) :
    (buildResumed v).abu.phase = .building ∧ (buildResumed v).abu.expected = v.abu.expected ∧
      (buildResumed v).abu.caps = v.abu.caps ∧ (buildResumed v).rru = v.rru := by
  have changed := BuildKept.changePhase .building v
  exact ⟨changed.phase, changed.expected, changePhase_caps _ _, changePhase_rru _ _ (by simp)⟩

/-- Whether a resumption closes the ring. -/
theorem closurePasses_buildResumed {a : ActivePlan} (taken : FaceTaken p s v) (active : s.rru.active = some a) :
    closurePasses (buildResumed v) = true ↔
      ((sectorOf s a.plan.keySector).state = .placed ∨ (sectorOf s a.plan.keySector).state = .accepted) ∧
        ∀ g : Fin 7, (groupOf s g).state = .holding := by
  have kept := closureKept_buildResumed v
  have sector (k : Fin 7) : sectorOf (buildResumed v) k = sectorOf s k := by
    rw [sectorOf, kept.sectors, taken.abu, sectorOf]
  have group (g : Fin 7) : groupOf (buildResumed v) g = groupOf s g := by
    rw [groupOf, kept.groups, taken.abu, groupOf]
  have plan : (buildResumed v).rru.active = some a := by
    rw [(buildResumed_abu v).2.2.2, taken.rru]
    exact active
  rw [closurePasses_iff, plan]
  simp [sector, group]

/-- A FACE sample in BUILD_SUSPENDED with no margin, or after which the ring stays open, or that closes the ring. -/
theorem checkLeave_cases (v : State) (hp : v.abu.phase = .buildSuspended) :
    checkLeave v =
      if resumesBuilding v = true then
        if closurePasses (buildResumed v) = true then closeRing (buildResumed v) else buildResumed v
      else v := by
  obtain ⟨phase, -⟩ := buildResumed_abu v
  unfold checkLeave
  by_cases resumes : resumesBuilding v = true
  · rw [if_pos ⟨hp, resumes⟩, if_pos resumes]
    show checkClosure (buildResumed v) = _
    unfold checkClosure
    simp only [phase, true_and]
  · rw [if_neg (by simp [resumes]), if_neg resumes]

/-- A resumption whether or not it closes the ring: what it leaves, and its event. -/
theorem checkLeave_resumes (v : State) (hp : v.abu.phase = .buildSuspended) (resumes : resumesBuilding v = true) :
    ClosureKept v (checkLeave v) ∧ EventWaits (.buildResumed (v.fbu.pw.getD 0)) (checkLeave v) := by
  have told := recentEvent_queueEvent (.buildResumed (v.fbu.pw.getD 0)) (changePhase .building v)
  have kept := closureKept_buildResumed v
  rw [checkLeave_cases v hp, if_pos resumes]
  split
  · exact ⟨kept.trans (.closeRing _), told.waits_closeRing (by omega)⟩
  · exact ⟨kept, told.waits⟩

/-- What a closure after a resumption says of the state before the sample. -/
theorem FaceTaken.ringClosed {a : ActivePlan} {r : RingRecord} (taken : FaceTaken p s v)
    (closed : RingClosed a r (buildResumed v).abu.sectors (buildResumed v) u) :
    RingClosed a r s.abu.sectors
      { s with fbu := u.fbu, abu := { s.abu with caps := { s.abu.caps with face := u.abu.caps.face } } } u := by
  obtain ⟨phase, absent, sectors, order, suspensions, caps, rru, told, complete, next, chm, mbu, fbu, gru, lines⟩ := closed
  have kept := closureKept_buildResumed v
  obtain ⟨-, -, table, plans⟩ := buildResumed_abu v
  rw [taken.rru] at plans
  have after : planAfter a (buildResumed v) = planAfter a s := by rw [planAfter, plans, planAfter]
  have bias : u.fbu.bias = (buildResumed v).fbu.bias := by rw [fbu]
  have face : u.abu.caps.face = v.abu.caps.face := by rw [caps, table]
  have seated : (buildResumed v).abu.sectors = s.abu.sectors := by rw [kept.sectors, taken.abu]
  have count : (buildResumed v).abu.suspensions = s.abu.suspensions := by rw [kept.suspensions, taken.abu]
  refine ⟨?_, absent, sectors.trans seated, ?_, suspensions.trans count, ?_, ?_, told, complete, ?_, ?_, ?_, ?_, ?_,
    fun l => ?_⟩
  · rw [after] at phase
    exact phase
  · rw [order, kept.buildOrder, taken.abu]
  · rw [after, table, taken.abu] at caps
    rw [face]
    exact caps
  · rw [after, plans, seated, count, ← bias] at rru
    exact rru
  · rw [plans] at next
    exact next
  · rw [chm, kept.chm, taken.chm]
  · rw [mbu, kept.mbu, taken.mbu]
  · rfl
  · rw [gru, kept.gru, taken.gru]
  · rw [lines l, kept.lines l, lineOf, taken.gru]
    rfl

/-- A FACE sample in BUILD_SUSPENDED. -/
theorem FaceTaken.suspended {a : ActivePlan} {r : RingRecord} (taken : FaceTaken p s v) (hp : s.abu.phase = .buildSuspended)
    (active : s.rru.active = some a) (hu : u = checkLeave v) :
    FaceMeasured p s u ∧
      (¬BearsFaceWithMargin { s with fbu := u.fbu } →
        u.abu.phase = .buildSuspended ∧ u.abu.expected = s.abu.expected ∧ u.gru = s.gru ∧ u.rru = s.rru) ∧
      (BearsFaceWithMargin { s with fbu := u.fbu } → EventWaits (.buildResumed (u.fbu.pw.getD 0)) u ∧
        ((sectorOf s a.plan.keySector).state = .empty ∨ (sectorOf s a.plan.keySector).state = .offset ∨
            (∃ g : Fin 7, (groupOf s g).state ≠ .holding) →
          u.abu.phase = .building ∧ u.abu.expected = s.abu.expected ∧ u.rru = s.rru) ∧
        ((sectorOf s a.plan.keySector).state = .placed ∨ (sectorOf s a.plan.keySector).state = .accepted →
          (∀ g : Fin 7, (groupOf s g).state = .holding) → s.rru.records.getLast? = some r → r.status = .opened →
          r.plan.ring = a.plan.ring → HaltLaw s → PlanLaw s → NumberingLaw s → OpenLaw s → CompleteLaw s →
          RingClosed a r s.abu.sectors
            { s with fbu := u.fbu, abu := { s.abu with caps := { s.abu.caps with face := u.abu.caps.face } } } u)) ∧
      u.abu.groups = s.abu.groups ∧ u.abu.suspensions = s.abu.suspensions ∧ u.abu.sectors = s.abu.sectors := by
  have phase : v.abu.phase = .buildSuspended := by rw [taken.abu]; exact hp
  have cases := checkLeave_cases v phase
  rw [← hu] at cases
  by_cases resumes : resumesBuilding v = true
  · obtain ⟨kept, told⟩ := checkLeave_resumes v phase resumes
    rw [← hu] at kept told
    rw [if_pos resumes] at cases
    have passes := closurePasses_buildResumed taken active
    obtain ⟨entered, expected, -, rru⟩ := buildResumed_abu v
    have pressure : u.fbu.pw = v.fbu.pw := by rw [kept.fbu]
    rw [pressure]
    refine ⟨taken.measured_of_screw kept.fbu, fun weak => absurd ((taken.resumes_iff kept.fbu).mp resumes) weak,
      fun _ => ⟨told, fun opens => ?_, fun seat standing last opened _ _ _ numbering openLaw complete => ?_⟩, ?_, ?_, ?_⟩
    · rw [if_neg] at cases
      · rw [cases]
        refine ⟨entered, expected.trans ?_, rru.trans taken.rru⟩
        rw [taken.abu]
      · rw [passes]
        rintro ⟨seat, standing⟩
        rcases opens with h | h | ⟨g, h⟩
        · simp [h] at seat
        · simp [h] at seat
        · exact h (standing g)
    · rw [if_pos (passes.mpr ⟨seat, standing⟩)] at cases
      have plans : (buildResumed v).rru = s.rru := rru.trans taken.rru
      have closed := ringClosed_closeRing (p := a) (r := r) (s := buildResumed v) (by simp [entered])
        (by rw [plans]; exact active) (by rw [plans]; exact newestOpened last opened numbering openLaw complete)
      rw [← cases] at closed
      exact taken.ringClosed closed
    · rw [kept.groups, taken.abu]
    · rw [kept.suspensions, taken.abu]
    · rw [kept.sectors, taken.abu]
  · rw [if_neg resumes] at cases
    subst cases
    refine ⟨taken.measured, fun _ => ⟨phase, ?_, taken.gru, taken.rru⟩, fun margin => ?_, ?_, ?_, ?_⟩
    · rw [taken.abu]
    · exact absurd ((taken.resumes_iff (u := u) rfl).mpr margin) resumes
    · rw [taken.abu]
    · rw [taken.abu]
    · rw [taken.abu]

end

/-- Settles O36: outside BORING a FACE sample leaves all that the build's checks read but the face, and each check is taken
by its own case. -/
theorem faceSampleSuspendsAndResumesTheBuild : Obligations.FaceSampleSuspendsAndResumesTheBuild := by
  unfold Obligations.FaceSampleSuspendsAndResumesTheBuild
  intro address sequence p a r s heard law active
  refine ⟨fun hp => ?_, fun hp => ?_⟩
  · have taken := faceTaken p sequence s law (by simp [hp])
    refine ⟨_, exec_faceSample_heard address sequence p s heard, ?_⟩
    refine taken.building hp (if_neg ?_)
    rw [taken.abu]
    simp [hp]
  · have taken := faceTaken p sequence s law (by simp [hp])
    refine ⟨_, exec_faceSample_heard address sequence p s heard, ?_⟩
    refine taken.suspended hp active (if_pos ?_)
    rw [taken.abu]
    exact hp

end Sys2Proof.Machine
end
